-- ==== Sys2Proof/Word.lean ====
section
/-! DEFINITION. The two word types of the core (spec/00_scope.md R6, R8): the 8-bit byte of the registers A, X, Y, S and of
the data bus, and the 16-bit word of the program counter and of every address. All arithmetic on them wraps, which is what
`u8(...)` and `u16(...)` say in R8. -/

namespace Sys2Proof

/-- `u8` of R8. -/
abbrev Byte := BitVec 8

/-- `u16` of R8. -/
abbrev Word := BitVec 16

end Sys2Proof
end

