-- ==== Sys2Proof/Syntax.lean ====
section
/-! DEFINITION. The syntax of the core: the addressing modes and operand forms of spec/30_encoding.md R91, the mnemonics of
R2 and R97, the columns of a dispatch entry (R94), and `Instr`, one constructor for each of the 256 rows of
spec/opcode_table.json (R103), holding the operand bytes of its row and nothing else. -/

namespace Sys2Proof

/-- The thirteen addressing modes of R91, the tag a dispatch entry carries (R94, R137). -/
inductive Mode where
  | implicit
  | accumulator
  | immediate
  | relative
  | absolute
  | zeroPage
  | indirect
  | absoluteX
  | absoluteY
  | zeroPageX
  | zeroPageY
  | indexedIndirectX
  | indirectIndexedY
  deriving DecidableEq, Repr

/-- An operand in one of the thirteen modes, with the operand bytes assembled as R92 says: one byte as it stands, two bytes
as the word `byte2 : byte1`. -/
inductive Operand where
  | implicit
  | accumulator
  | immediate (imm : Byte)
  | relative (rel : Byte)
  | absolute (addr : Word)
  | zeroPage (zp : Byte)
  | indirect (ptr : Word)
  | absoluteX (base : Word)
  | absoluteY (base : Word)
  | zeroPageX (zp : Byte)
  | zeroPageY (zp : Byte)
  | indexedIndirectX (zp : Byte)
  | indirectIndexedY (zp : Byte)
  deriving DecidableEq, Repr

/-- The 56 documented mnemonics of R2 and the 22 labels of the illegal rows (R97), the latter with `ill` before the name. -/
inductive Mnemonic where
  | and | ora | eor | asl | lsr | rol | ror | bpl | bmi | bvc | bvs | bcc | bcs | bne
  | beq | cmp | cpx | cpy | bit | clc | cld | cli | clv | sec | sed | sei | jmp | jsr
  | rts | rti | adc | sbc | lda | ldx | ldy | sta | stx | sty | inc | dec | inx | iny
  | dex | dey | tax | tay | txa | tya | tsx | txs | pha | php | pla | plp | brk | nop
  | illSlo | illRla | illSre | illRra | illSax | illLax | illLxa | illDcp | illIsc | illAnc | illAlr
  | illArr | illAne | illSbx | illUsbc | illSha | illShx | illShy | illTas | illLas | illNop | illKil
  deriving DecidableEq, Repr

/-- The penalty class of a row (R94): what a page cross of its resolver costs (R295). -/
inductive Penalty where
  | none
  | read
  | branch
  deriving DecidableEq, Repr

/-- The class of a row (R97). -/
inductive RowClass where
  | documented
  | illegal
  deriving DecidableEq, Repr

/-- A dispatch entry (R94), less its opcode byte, which is its index in the table, and its handler, which is the meaning that
`exec` gives the instruction. `size` is the column `bytes` of R103. -/
structure Row where
  mnemonic : Mnemonic
  mode : Mode
  size : Nat
  baseCycles : Nat
  penalty : Penalty
  cls : RowClass
  deriving DecidableEq, Repr

/-- The instructions, one constructor per row of R103: first the rows with bytes after the opcode byte, then
the one-byte rows, each in the order of the opcode byte. An illegal row's constructor ends in
its opcode byte. `brk` carries the padding byte of R91 and an illegal Immediate row its operand byte: both are bytes of the
encoding, and neither is read when the instruction runs (R270, R272). -/
inductive Instr where
  /-- 0x00 BRK, Implicit (R270). -/
  | brk (pad : Byte)
  /-- 0x01 ORA, Indexed Indirect (X) (R152). -/
  | oraIzx (zp : Byte)
  /-- 0x03 *SLO, Indexed Indirect (X) (R272). -/
  | illSlo03 (zp : Byte)
  /-- 0x04 *NOP, Zero Page (R272). -/
  | illNop04 (zp : Byte)
  /-- 0x05 ORA, Zero Page (R152). -/
  | oraZp (zp : Byte)
  /-- 0x06 ASL, Zero Page (R154). -/
  | aslZp (zp : Byte)
  /-- 0x07 *SLO, Zero Page (R272). -/
  | illSlo07 (zp : Byte)
  /-- 0x09 ORA, Immediate (R152). -/
  | oraImm (imm : Byte)
  /-- 0x0B *ANC, Immediate (R272). -/
  | illAnc0B (imm : Byte)
  /-- 0x0C *NOP, Absolute (R272). -/
  | illNop0C (addr : Word)
  /-- 0x0D ORA, Absolute (R152). -/
  | oraAbs (addr : Word)
  /-- 0x0E ASL, Absolute (R154). -/
  | aslAbs (addr : Word)
  /-- 0x0F *SLO, Absolute (R272). -/
  | illSlo0F (addr : Word)
  /-- 0x10 BPL, Relative (R171). -/
  | bpl (rel : Byte)
  /-- 0x11 ORA, Indirect Indexed (Y) (R152). -/
  | oraIzy (zp : Byte)
  /-- 0x13 *SLO, Indirect Indexed (Y) (R272). -/
  | illSlo13 (zp : Byte)
  /-- 0x14 *NOP, Zero Page,X (R272). -/
  | illNop14 (zp : Byte)
  /-- 0x15 ORA, Zero Page,X (R152). -/
  | oraZpx (zp : Byte)
  /-- 0x16 ASL, Zero Page,X (R154). -/
  | aslZpx (zp : Byte)
  /-- 0x17 *SLO, Zero Page,X (R272). -/
  | illSlo17 (zp : Byte)
  /-- 0x19 ORA, Absolute,Y (R152). -/
  | oraAby (base : Word)
  /-- 0x1B *SLO, Absolute,Y (R272). -/
  | illSlo1B (base : Word)
  /-- 0x1C *NOP, Absolute,X (R272). -/
  | illNop1C (base : Word)
  /-- 0x1D ORA, Absolute,X (R152). -/
  | oraAbx (base : Word)
  /-- 0x1E ASL, Absolute,X (R154). -/
  | aslAbx (base : Word)
  /-- 0x1F *SLO, Absolute,X (R272). -/
  | illSlo1F (base : Word)
  /-- 0x20 JSR, Absolute (R201). -/
  | jsr (addr : Word)
  /-- 0x21 AND, Indexed Indirect (X) (R151). -/
  | andIzx (zp : Byte)
  /-- 0x23 *RLA, Indexed Indirect (X) (R272). -/
  | illRla23 (zp : Byte)
  /-- 0x24 BIT, Zero Page (R184). -/
  | bitZp (zp : Byte)
  /-- 0x25 AND, Zero Page (R151). -/
  | andZp (zp : Byte)
  /-- 0x26 ROL, Zero Page (R156). -/
  | rolZp (zp : Byte)
  /-- 0x27 *RLA, Zero Page (R272). -/
  | illRla27 (zp : Byte)
  /-- 0x29 AND, Immediate (R151). -/
  | andImm (imm : Byte)
  /-- 0x2B *ANC, Immediate (R272). -/
  | illAnc2B (imm : Byte)
  /-- 0x2C BIT, Absolute (R184). -/
  | bitAbs (addr : Word)
  /-- 0x2D AND, Absolute (R151). -/
  | andAbs (addr : Word)
  /-- 0x2E ROL, Absolute (R156). -/
  | rolAbs (addr : Word)
  /-- 0x2F *RLA, Absolute (R272). -/
  | illRla2F (addr : Word)
  /-- 0x30 BMI, Relative (R172). -/
  | bmi (rel : Byte)
  /-- 0x31 AND, Indirect Indexed (Y) (R151). -/
  | andIzy (zp : Byte)
  /-- 0x33 *RLA, Indirect Indexed (Y) (R272). -/
  | illRla33 (zp : Byte)
  /-- 0x34 *NOP, Zero Page,X (R272). -/
  | illNop34 (zp : Byte)
  /-- 0x35 AND, Zero Page,X (R151). -/
  | andZpx (zp : Byte)
  /-- 0x36 ROL, Zero Page,X (R156). -/
  | rolZpx (zp : Byte)
  /-- 0x37 *RLA, Zero Page,X (R272). -/
  | illRla37 (zp : Byte)
  /-- 0x39 AND, Absolute,Y (R151). -/
  | andAby (base : Word)
  /-- 0x3B *RLA, Absolute,Y (R272). -/
  | illRla3B (base : Word)
  /-- 0x3C *NOP, Absolute,X (R272). -/
  | illNop3C (base : Word)
  /-- 0x3D AND, Absolute,X (R151). -/
  | andAbx (base : Word)
  /-- 0x3E ROL, Absolute,X (R156). -/
  | rolAbx (base : Word)
  /-- 0x3F *RLA, Absolute,X (R272). -/
  | illRla3F (base : Word)
  /-- 0x41 EOR, Indexed Indirect (X) (R153). -/
  | eorIzx (zp : Byte)
  /-- 0x43 *SRE, Indexed Indirect (X) (R272). -/
  | illSre43 (zp : Byte)
  /-- 0x44 *NOP, Zero Page (R272). -/
  | illNop44 (zp : Byte)
  /-- 0x45 EOR, Zero Page (R153). -/
  | eorZp (zp : Byte)
  /-- 0x46 LSR, Zero Page (R155). -/
  | lsrZp (zp : Byte)
  /-- 0x47 *SRE, Zero Page (R272). -/
  | illSre47 (zp : Byte)
  /-- 0x49 EOR, Immediate (R153). -/
  | eorImm (imm : Byte)
  /-- 0x4B *ALR, Immediate (R272). -/
  | illAlr4B (imm : Byte)
  /-- 0x4C JMP, Absolute (R200). -/
  | jmpAbs (addr : Word)
  /-- 0x4D EOR, Absolute (R153). -/
  | eorAbs (addr : Word)
  /-- 0x4E LSR, Absolute (R155). -/
  | lsrAbs (addr : Word)
  /-- 0x4F *SRE, Absolute (R272). -/
  | illSre4F (addr : Word)
  /-- 0x50 BVC, Relative (R173). -/
  | bvc (rel : Byte)
  /-- 0x51 EOR, Indirect Indexed (Y) (R153). -/
  | eorIzy (zp : Byte)
  /-- 0x53 *SRE, Indirect Indexed (Y) (R272). -/
  | illSre53 (zp : Byte)
  /-- 0x54 *NOP, Zero Page,X (R272). -/
  | illNop54 (zp : Byte)
  /-- 0x55 EOR, Zero Page,X (R153). -/
  | eorZpx (zp : Byte)
  /-- 0x56 LSR, Zero Page,X (R155). -/
  | lsrZpx (zp : Byte)
  /-- 0x57 *SRE, Zero Page,X (R272). -/
  | illSre57 (zp : Byte)
  /-- 0x59 EOR, Absolute,Y (R153). -/
  | eorAby (base : Word)
  /-- 0x5B *SRE, Absolute,Y (R272). -/
  | illSre5B (base : Word)
  /-- 0x5C *NOP, Absolute,X (R272). -/
  | illNop5C (base : Word)
  /-- 0x5D EOR, Absolute,X (R153). -/
  | eorAbx (base : Word)
  /-- 0x5E LSR, Absolute,X (R155). -/
  | lsrAbx (base : Word)
  /-- 0x5F *SRE, Absolute,X (R272). -/
  | illSre5F (base : Word)
  /-- 0x61 ADC, Indexed Indirect (X) (R221). -/
  | adcIzx (zp : Byte)
  /-- 0x63 *RRA, Indexed Indirect (X) (R272). -/
  | illRra63 (zp : Byte)
  /-- 0x64 *NOP, Zero Page (R272). -/
  | illNop64 (zp : Byte)
  /-- 0x65 ADC, Zero Page (R221). -/
  | adcZp (zp : Byte)
  /-- 0x66 ROR, Zero Page (R157). -/
  | rorZp (zp : Byte)
  /-- 0x67 *RRA, Zero Page (R272). -/
  | illRra67 (zp : Byte)
  /-- 0x69 ADC, Immediate (R221). -/
  | adcImm (imm : Byte)
  /-- 0x6B *ARR, Immediate (R272). -/
  | illArr6B (imm : Byte)
  /-- 0x6C JMP, Indirect (R200). -/
  | jmpInd (ptr : Word)
  /-- 0x6D ADC, Absolute (R221). -/
  | adcAbs (addr : Word)
  /-- 0x6E ROR, Absolute (R157). -/
  | rorAbs (addr : Word)
  /-- 0x6F *RRA, Absolute (R272). -/
  | illRra6F (addr : Word)
  /-- 0x70 BVS, Relative (R174). -/
  | bvs (rel : Byte)
  /-- 0x71 ADC, Indirect Indexed (Y) (R221). -/
  | adcIzy (zp : Byte)
  /-- 0x73 *RRA, Indirect Indexed (Y) (R272). -/
  | illRra73 (zp : Byte)
  /-- 0x74 *NOP, Zero Page,X (R272). -/
  | illNop74 (zp : Byte)
  /-- 0x75 ADC, Zero Page,X (R221). -/
  | adcZpx (zp : Byte)
  /-- 0x76 ROR, Zero Page,X (R157). -/
  | rorZpx (zp : Byte)
  /-- 0x77 *RRA, Zero Page,X (R272). -/
  | illRra77 (zp : Byte)
  /-- 0x79 ADC, Absolute,Y (R221). -/
  | adcAby (base : Word)
  /-- 0x7B *RRA, Absolute,Y (R272). -/
  | illRra7B (base : Word)
  /-- 0x7C *NOP, Absolute,X (R272). -/
  | illNop7C (base : Word)
  /-- 0x7D ADC, Absolute,X (R221). -/
  | adcAbx (base : Word)
  /-- 0x7E ROR, Absolute,X (R157). -/
  | rorAbx (base : Word)
  /-- 0x7F *RRA, Absolute,X (R272). -/
  | illRra7F (base : Word)
  /-- 0x80 *NOP, Immediate (R272). -/
  | illNop80 (imm : Byte)
  /-- 0x81 STA, Indexed Indirect (X) (R226). -/
  | staIzx (zp : Byte)
  /-- 0x82 *NOP, Immediate (R272). -/
  | illNop82 (imm : Byte)
  /-- 0x83 *SAX, Indexed Indirect (X) (R272). -/
  | illSax83 (zp : Byte)
  /-- 0x84 STY, Zero Page (R228). -/
  | styZp (zp : Byte)
  /-- 0x85 STA, Zero Page (R226). -/
  | staZp (zp : Byte)
  /-- 0x86 STX, Zero Page (R227). -/
  | stxZp (zp : Byte)
  /-- 0x87 *SAX, Zero Page (R272). -/
  | illSax87 (zp : Byte)
  /-- 0x89 *NOP, Immediate (R272). -/
  | illNop89 (imm : Byte)
  /-- 0x8B *ANE, Immediate (R272). -/
  | illAne8B (imm : Byte)
  /-- 0x8C STY, Absolute (R228). -/
  | styAbs (addr : Word)
  /-- 0x8D STA, Absolute (R226). -/
  | staAbs (addr : Word)
  /-- 0x8E STX, Absolute (R227). -/
  | stxAbs (addr : Word)
  /-- 0x8F *SAX, Absolute (R272). -/
  | illSax8F (addr : Word)
  /-- 0x90 BCC, Relative (R175). -/
  | bcc (rel : Byte)
  /-- 0x91 STA, Indirect Indexed (Y) (R226). -/
  | staIzy (zp : Byte)
  /-- 0x93 *SHA, Indirect Indexed (Y) (R272). -/
  | illSha93 (zp : Byte)
  /-- 0x94 STY, Zero Page,X (R228). -/
  | styZpx (zp : Byte)
  /-- 0x95 STA, Zero Page,X (R226). -/
  | staZpx (zp : Byte)
  /-- 0x96 STX, Zero Page,Y (R227). -/
  | stxZpy (zp : Byte)
  /-- 0x97 *SAX, Zero Page,Y (R272). -/
  | illSax97 (zp : Byte)
  /-- 0x99 STA, Absolute,Y (R226). -/
  | staAby (base : Word)
  /-- 0x9B *TAS, Absolute,Y (R272). -/
  | illTas9B (base : Word)
  /-- 0x9C *SHY, Absolute,X (R272). -/
  | illShy9C (base : Word)
  /-- 0x9D STA, Absolute,X (R226). -/
  | staAbx (base : Word)
  /-- 0x9E *SHX, Absolute,Y (R272). -/
  | illShx9E (base : Word)
  /-- 0x9F *SHA, Absolute,Y (R272). -/
  | illSha9F (base : Word)
  /-- 0xA0 LDY, Immediate (R225). -/
  | ldyImm (imm : Byte)
  /-- 0xA1 LDA, Indexed Indirect (X) (R223). -/
  | ldaIzx (zp : Byte)
  /-- 0xA2 LDX, Immediate (R224). -/
  | ldxImm (imm : Byte)
  /-- 0xA3 *LAX, Indexed Indirect (X) (R272). -/
  | illLaxA3 (zp : Byte)
  /-- 0xA4 LDY, Zero Page (R225). -/
  | ldyZp (zp : Byte)
  /-- 0xA5 LDA, Zero Page (R223). -/
  | ldaZp (zp : Byte)
  /-- 0xA6 LDX, Zero Page (R224). -/
  | ldxZp (zp : Byte)
  /-- 0xA7 *LAX, Zero Page (R272). -/
  | illLaxA7 (zp : Byte)
  /-- 0xA9 LDA, Immediate (R223). -/
  | ldaImm (imm : Byte)
  /-- 0xAB *LXA, Immediate (R272). -/
  | illLxaAB (imm : Byte)
  /-- 0xAC LDY, Absolute (R225). -/
  | ldyAbs (addr : Word)
  /-- 0xAD LDA, Absolute (R223). -/
  | ldaAbs (addr : Word)
  /-- 0xAE LDX, Absolute (R224). -/
  | ldxAbs (addr : Word)
  /-- 0xAF *LAX, Absolute (R272). -/
  | illLaxAF (addr : Word)
  /-- 0xB0 BCS, Relative (R176). -/
  | bcs (rel : Byte)
  /-- 0xB1 LDA, Indirect Indexed (Y) (R223). -/
  | ldaIzy (zp : Byte)
  /-- 0xB3 *LAX, Indirect Indexed (Y) (R272). -/
  | illLaxB3 (zp : Byte)
  /-- 0xB4 LDY, Zero Page,X (R225). -/
  | ldyZpx (zp : Byte)
  /-- 0xB5 LDA, Zero Page,X (R223). -/
  | ldaZpx (zp : Byte)
  /-- 0xB6 LDX, Zero Page,Y (R224). -/
  | ldxZpy (zp : Byte)
  /-- 0xB7 *LAX, Zero Page,Y (R272). -/
  | illLaxB7 (zp : Byte)
  /-- 0xB9 LDA, Absolute,Y (R223). -/
  | ldaAby (base : Word)
  /-- 0xBB *LAS, Absolute,Y (R272). -/
  | illLasBB (base : Word)
  /-- 0xBC LDY, Absolute,X (R225). -/
  | ldyAbx (base : Word)
  /-- 0xBD LDA, Absolute,X (R223). -/
  | ldaAbx (base : Word)
  /-- 0xBE LDX, Absolute,Y (R224). -/
  | ldxAby (base : Word)
  /-- 0xBF *LAX, Absolute,Y (R272). -/
  | illLaxBF (base : Word)
  /-- 0xC0 CPY, Immediate (R182). -/
  | cpyImm (imm : Byte)
  /-- 0xC1 CMP, Indexed Indirect (X) (R180). -/
  | cmpIzx (zp : Byte)
  /-- 0xC2 *NOP, Immediate (R272). -/
  | illNopC2 (imm : Byte)
  /-- 0xC3 *DCP, Indexed Indirect (X) (R272). -/
  | illDcpC3 (zp : Byte)
  /-- 0xC4 CPY, Zero Page (R182). -/
  | cpyZp (zp : Byte)
  /-- 0xC5 CMP, Zero Page (R180). -/
  | cmpZp (zp : Byte)
  /-- 0xC6 DEC, Zero Page (R241). -/
  | decZp (zp : Byte)
  /-- 0xC7 *DCP, Zero Page (R272). -/
  | illDcpC7 (zp : Byte)
  /-- 0xC9 CMP, Immediate (R180). -/
  | cmpImm (imm : Byte)
  /-- 0xCB *SBX, Immediate (R272). -/
  | illSbxCB (imm : Byte)
  /-- 0xCC CPY, Absolute (R182). -/
  | cpyAbs (addr : Word)
  /-- 0xCD CMP, Absolute (R180). -/
  | cmpAbs (addr : Word)
  /-- 0xCE DEC, Absolute (R241). -/
  | decAbs (addr : Word)
  /-- 0xCF *DCP, Absolute (R272). -/
  | illDcpCF (addr : Word)
  /-- 0xD0 BNE, Relative (R177). -/
  | bne (rel : Byte)
  /-- 0xD1 CMP, Indirect Indexed (Y) (R180). -/
  | cmpIzy (zp : Byte)
  /-- 0xD3 *DCP, Indirect Indexed (Y) (R272). -/
  | illDcpD3 (zp : Byte)
  /-- 0xD4 *NOP, Zero Page,X (R272). -/
  | illNopD4 (zp : Byte)
  /-- 0xD5 CMP, Zero Page,X (R180). -/
  | cmpZpx (zp : Byte)
  /-- 0xD6 DEC, Zero Page,X (R241). -/
  | decZpx (zp : Byte)
  /-- 0xD7 *DCP, Zero Page,X (R272). -/
  | illDcpD7 (zp : Byte)
  /-- 0xD9 CMP, Absolute,Y (R180). -/
  | cmpAby (base : Word)
  /-- 0xDB *DCP, Absolute,Y (R272). -/
  | illDcpDB (base : Word)
  /-- 0xDC *NOP, Absolute,X (R272). -/
  | illNopDC (base : Word)
  /-- 0xDD CMP, Absolute,X (R180). -/
  | cmpAbx (base : Word)
  /-- 0xDE DEC, Absolute,X (R241). -/
  | decAbx (base : Word)
  /-- 0xDF *DCP, Absolute,X (R272). -/
  | illDcpDF (base : Word)
  /-- 0xE0 CPX, Immediate (R181). -/
  | cpxImm (imm : Byte)
  /-- 0xE1 SBC, Indexed Indirect (X) (R222). -/
  | sbcIzx (zp : Byte)
  /-- 0xE2 *NOP, Immediate (R272). -/
  | illNopE2 (imm : Byte)
  /-- 0xE3 *ISC, Indexed Indirect (X) (R272). -/
  | illIscE3 (zp : Byte)
  /-- 0xE4 CPX, Zero Page (R181). -/
  | cpxZp (zp : Byte)
  /-- 0xE5 SBC, Zero Page (R222). -/
  | sbcZp (zp : Byte)
  /-- 0xE6 INC, Zero Page (R240). -/
  | incZp (zp : Byte)
  /-- 0xE7 *ISC, Zero Page (R272). -/
  | illIscE7 (zp : Byte)
  /-- 0xE9 SBC, Immediate (R222). -/
  | sbcImm (imm : Byte)
  /-- 0xEB *USBC, Immediate (R272). -/
  | illUsbcEB (imm : Byte)
  /-- 0xEC CPX, Absolute (R181). -/
  | cpxAbs (addr : Word)
  /-- 0xED SBC, Absolute (R222). -/
  | sbcAbs (addr : Word)
  /-- 0xEE INC, Absolute (R240). -/
  | incAbs (addr : Word)
  /-- 0xEF *ISC, Absolute (R272). -/
  | illIscEF (addr : Word)
  /-- 0xF0 BEQ, Relative (R178). -/
  | beq (rel : Byte)
  /-- 0xF1 SBC, Indirect Indexed (Y) (R222). -/
  | sbcIzy (zp : Byte)
  /-- 0xF3 *ISC, Indirect Indexed (Y) (R272). -/
  | illIscF3 (zp : Byte)
  /-- 0xF4 *NOP, Zero Page,X (R272). -/
  | illNopF4 (zp : Byte)
  /-- 0xF5 SBC, Zero Page,X (R222). -/
  | sbcZpx (zp : Byte)
  /-- 0xF6 INC, Zero Page,X (R240). -/
  | incZpx (zp : Byte)
  /-- 0xF7 *ISC, Zero Page,X (R272). -/
  | illIscF7 (zp : Byte)
  /-- 0xF9 SBC, Absolute,Y (R222). -/
  | sbcAby (base : Word)
  /-- 0xFB *ISC, Absolute,Y (R272). -/
  | illIscFB (base : Word)
  /-- 0xFC *NOP, Absolute,X (R272). -/
  | illNopFC (base : Word)
  /-- 0xFD SBC, Absolute,X (R222). -/
  | sbcAbx (base : Word)
  /-- 0xFE INC, Absolute,X (R240). -/
  | incAbx (base : Word)
  /-- 0xFF *ISC, Absolute,X (R272). -/
  | illIscFF (base : Word)
  /-- 0x02 *KIL, Implicit (R272). -/
  | illKil02
  /-- 0x08 PHP, Implicit (R253). -/
  | php
  /-- 0x0A ASL, Accumulator (R154). -/
  | aslAcc
  /-- 0x12 *KIL, Implicit (R272). -/
  | illKil12
  /-- 0x18 CLC, Implicit (R186). -/
  | clc
  /-- 0x1A *NOP, Implicit (R272). -/
  | illNop1A
  /-- 0x22 *KIL, Implicit (R272). -/
  | illKil22
  /-- 0x28 PLP, Implicit (R255). -/
  | plp
  /-- 0x2A ROL, Accumulator (R156). -/
  | rolAcc
  /-- 0x32 *KIL, Implicit (R272). -/
  | illKil32
  /-- 0x38 SEC, Implicit (R190). -/
  | sec
  /-- 0x3A *NOP, Implicit (R272). -/
  | illNop3A
  /-- 0x40 RTI, Implicit (R203). -/
  | rti
  /-- 0x42 *KIL, Implicit (R272). -/
  | illKil42
  /-- 0x48 PHA, Implicit (R252). -/
  | pha
  /-- 0x4A LSR, Accumulator (R155). -/
  | lsrAcc
  /-- 0x52 *KIL, Implicit (R272). -/
  | illKil52
  /-- 0x58 CLI, Implicit (R188). -/
  | cli
  /-- 0x5A *NOP, Implicit (R272). -/
  | illNop5A
  /-- 0x60 RTS, Implicit (R202). -/
  | rts
  /-- 0x62 *KIL, Implicit (R272). -/
  | illKil62
  /-- 0x68 PLA, Implicit (R254). -/
  | pla
  /-- 0x6A ROR, Accumulator (R157). -/
  | rorAcc
  /-- 0x72 *KIL, Implicit (R272). -/
  | illKil72
  /-- 0x78 SEI, Implicit (R192). -/
  | sei
  /-- 0x7A *NOP, Implicit (R272). -/
  | illNop7A
  /-- 0x88 DEY, Implicit (R245). -/
  | dey
  /-- 0x8A TXA, Implicit (R248). -/
  | txa
  /-- 0x92 *KIL, Implicit (R272). -/
  | illKil92
  /-- 0x98 TYA, Implicit (R249). -/
  | tya
  /-- 0x9A TXS, Implicit (R251). -/
  | txs
  /-- 0xA8 TAY, Implicit (R247). -/
  | tay
  /-- 0xAA TAX, Implicit (R246). -/
  | tax
  /-- 0xB2 *KIL, Implicit (R272). -/
  | illKilB2
  /-- 0xB8 CLV, Implicit (R189). -/
  | clv
  /-- 0xBA TSX, Implicit (R250). -/
  | tsx
  /-- 0xC8 INY, Implicit (R243). -/
  | iny
  /-- 0xCA DEX, Implicit (R244). -/
  | dex
  /-- 0xD2 *KIL, Implicit (R272). -/
  | illKilD2
  /-- 0xD8 CLD, Implicit (R187). -/
  | cld
  /-- 0xDA *NOP, Implicit (R272). -/
  | illNopDA
  /-- 0xE8 INX, Implicit (R242). -/
  | inx
  /-- 0xEA NOP, Implicit (R271). -/
  | nop
  /-- 0xF2 *KIL, Implicit (R272). -/
  | illKilF2
  /-- 0xF8 SED, Implicit (R191). -/
  | sed
  /-- 0xFA *NOP, Implicit (R272). -/
  | illNopFA
  deriving DecidableEq, Repr

/-- Why a byte string is not the start of an instruction. No opcode byte is among the reasons (R96). -/
inductive DecodeError where
  /-- There is no opcode byte. -/
  | noOpcode
  /-- The string ends before the operand bytes that the opcode byte calls for (R90). -/
  | missingOperand
  deriving DecidableEq, Repr

/-- What decoding a byte string answers: an instruction and the bytes after it, or a rejection by name. -/
inductive DecodeResult where
  | ok (i : Instr) (rest : List Byte)
  | rejected (why : DecodeError)
  deriving DecidableEq, Repr

end Sys2Proof
end

