-- ==== Sys2Proof/Decode.lean ====
section
/-! DEFINITION. The encoding of spec/30_encoding.md: operand assembly (R92), the dispatch table (R94, R95, R103), the decoder,
which is total on the opcode byte (R96) and reads it as an index and not by sub-fields (R93), and after it the encoder. The
sixteen rows and columns of the two maps are the high and the low nibble of the opcode byte, as R102 lays them out; in each,
the last arm is the nibble 0xF, the one left. -/

namespace Sys2Proof

/-- `hi:lo` of R9, `hi * 256 + lo`. -/
def wordOfBytes (hi lo : Byte) : Word := BitVec.ofNat 16 (hi.toNat * 256 + lo.toNat)

/-- Bits 7..0 of a word. -/
def lowByte (w : Word) : Byte := w.extractLsb' 0 8

/-- Bits 15..8 of a word. -/
def highByte (w : Word) : Byte := w.extractLsb' 8 8

/-- The row of R102 an opcode byte stands in. -/
def highNibble (b : Byte) : BitVec 4 := b.extractLsb' 4 4

/-- The column of R102 an opcode byte stands in. -/
def lowNibble (b : Byte) : BitVec 4 := b.extractLsb' 0 4

/-! ### The dispatch table -/

/-- R103, opcode bytes 0x00 to 0x0F. -/
def tableRow0 (lo : BitVec 4) : Row :=
  match lo with
  | 0x0#4 => ⟨.brk, .implicit, 2, 7, .none, .documented⟩
  | 0x1#4 => ⟨.ora, .indexedIndirectX, 2, 6, .none, .documented⟩
  | 0x2#4 => ⟨.illKil, .implicit, 1, 2, .none, .illegal⟩
  | 0x3#4 => ⟨.illSlo, .indexedIndirectX, 2, 8, .none, .illegal⟩
  | 0x4#4 => ⟨.illNop, .zeroPage, 2, 3, .none, .illegal⟩
  | 0x5#4 => ⟨.ora, .zeroPage, 2, 3, .none, .documented⟩
  | 0x6#4 => ⟨.asl, .zeroPage, 2, 5, .none, .documented⟩
  | 0x7#4 => ⟨.illSlo, .zeroPage, 2, 5, .none, .illegal⟩
  | 0x8#4 => ⟨.php, .implicit, 1, 3, .none, .documented⟩
  | 0x9#4 => ⟨.ora, .immediate, 2, 2, .none, .documented⟩
  | 0xA#4 => ⟨.asl, .accumulator, 1, 2, .none, .documented⟩
  | 0xB#4 => ⟨.illAnc, .immediate, 2, 2, .none, .illegal⟩
  | 0xC#4 => ⟨.illNop, .absolute, 3, 4, .none, .illegal⟩
  | 0xD#4 => ⟨.ora, .absolute, 3, 4, .none, .documented⟩
  | 0xE#4 => ⟨.asl, .absolute, 3, 6, .none, .documented⟩
  | _ => ⟨.illSlo, .absolute, 3, 6, .none, .illegal⟩

/-- R103, opcode bytes 0x10 to 0x1F. -/
def tableRow1 (lo : BitVec 4) : Row :=
  match lo with
  | 0x0#4 => ⟨.bpl, .relative, 2, 2, .branch, .documented⟩
  | 0x1#4 => ⟨.ora, .indirectIndexedY, 2, 5, .read, .documented⟩
  | 0x2#4 => ⟨.illKil, .implicit, 1, 2, .none, .illegal⟩
  | 0x3#4 => ⟨.illSlo, .indirectIndexedY, 2, 8, .none, .illegal⟩
  | 0x4#4 => ⟨.illNop, .zeroPageX, 2, 4, .none, .illegal⟩
  | 0x5#4 => ⟨.ora, .zeroPageX, 2, 4, .none, .documented⟩
  | 0x6#4 => ⟨.asl, .zeroPageX, 2, 6, .none, .documented⟩
  | 0x7#4 => ⟨.illSlo, .zeroPageX, 2, 6, .none, .illegal⟩
  | 0x8#4 => ⟨.clc, .implicit, 1, 2, .none, .documented⟩
  | 0x9#4 => ⟨.ora, .absoluteY, 3, 4, .read, .documented⟩
  | 0xA#4 => ⟨.illNop, .implicit, 1, 2, .none, .illegal⟩
  | 0xB#4 => ⟨.illSlo, .absoluteY, 3, 7, .none, .illegal⟩
  | 0xC#4 => ⟨.illNop, .absoluteX, 3, 4, .read, .illegal⟩
  | 0xD#4 => ⟨.ora, .absoluteX, 3, 4, .read, .documented⟩
  | 0xE#4 => ⟨.asl, .absoluteX, 3, 7, .none, .documented⟩
  | _ => ⟨.illSlo, .absoluteX, 3, 7, .none, .illegal⟩

/-- R103, opcode bytes 0x20 to 0x2F. -/
def tableRow2 (lo : BitVec 4) : Row :=
  match lo with
  | 0x0#4 => ⟨.jsr, .absolute, 3, 6, .none, .documented⟩
  | 0x1#4 => ⟨.and, .indexedIndirectX, 2, 6, .none, .documented⟩
  | 0x2#4 => ⟨.illKil, .implicit, 1, 2, .none, .illegal⟩
  | 0x3#4 => ⟨.illRla, .indexedIndirectX, 2, 8, .none, .illegal⟩
  | 0x4#4 => ⟨.bit, .zeroPage, 2, 3, .none, .documented⟩
  | 0x5#4 => ⟨.and, .zeroPage, 2, 3, .none, .documented⟩
  | 0x6#4 => ⟨.rol, .zeroPage, 2, 5, .none, .documented⟩
  | 0x7#4 => ⟨.illRla, .zeroPage, 2, 5, .none, .illegal⟩
  | 0x8#4 => ⟨.plp, .implicit, 1, 4, .none, .documented⟩
  | 0x9#4 => ⟨.and, .immediate, 2, 2, .none, .documented⟩
  | 0xA#4 => ⟨.rol, .accumulator, 1, 2, .none, .documented⟩
  | 0xB#4 => ⟨.illAnc, .immediate, 2, 2, .none, .illegal⟩
  | 0xC#4 => ⟨.bit, .absolute, 3, 4, .none, .documented⟩
  | 0xD#4 => ⟨.and, .absolute, 3, 4, .none, .documented⟩
  | 0xE#4 => ⟨.rol, .absolute, 3, 6, .none, .documented⟩
  | _ => ⟨.illRla, .absolute, 3, 6, .none, .illegal⟩

/-- R103, opcode bytes 0x30 to 0x3F. -/
def tableRow3 (lo : BitVec 4) : Row :=
  match lo with
  | 0x0#4 => ⟨.bmi, .relative, 2, 2, .branch, .documented⟩
  | 0x1#4 => ⟨.and, .indirectIndexedY, 2, 5, .read, .documented⟩
  | 0x2#4 => ⟨.illKil, .implicit, 1, 2, .none, .illegal⟩
  | 0x3#4 => ⟨.illRla, .indirectIndexedY, 2, 8, .none, .illegal⟩
  | 0x4#4 => ⟨.illNop, .zeroPageX, 2, 4, .none, .illegal⟩
  | 0x5#4 => ⟨.and, .zeroPageX, 2, 4, .none, .documented⟩
  | 0x6#4 => ⟨.rol, .zeroPageX, 2, 6, .none, .documented⟩
  | 0x7#4 => ⟨.illRla, .zeroPageX, 2, 6, .none, .illegal⟩
  | 0x8#4 => ⟨.sec, .implicit, 1, 2, .none, .documented⟩
  | 0x9#4 => ⟨.and, .absoluteY, 3, 4, .read, .documented⟩
  | 0xA#4 => ⟨.illNop, .implicit, 1, 2, .none, .illegal⟩
  | 0xB#4 => ⟨.illRla, .absoluteY, 3, 7, .none, .illegal⟩
  | 0xC#4 => ⟨.illNop, .absoluteX, 3, 4, .read, .illegal⟩
  | 0xD#4 => ⟨.and, .absoluteX, 3, 4, .read, .documented⟩
  | 0xE#4 => ⟨.rol, .absoluteX, 3, 7, .none, .documented⟩
  | _ => ⟨.illRla, .absoluteX, 3, 7, .none, .illegal⟩

/-- R103, opcode bytes 0x40 to 0x4F. -/
def tableRow4 (lo : BitVec 4) : Row :=
  match lo with
  | 0x0#4 => ⟨.rti, .implicit, 1, 6, .none, .documented⟩
  | 0x1#4 => ⟨.eor, .indexedIndirectX, 2, 6, .none, .documented⟩
  | 0x2#4 => ⟨.illKil, .implicit, 1, 2, .none, .illegal⟩
  | 0x3#4 => ⟨.illSre, .indexedIndirectX, 2, 8, .none, .illegal⟩
  | 0x4#4 => ⟨.illNop, .zeroPage, 2, 3, .none, .illegal⟩
  | 0x5#4 => ⟨.eor, .zeroPage, 2, 3, .none, .documented⟩
  | 0x6#4 => ⟨.lsr, .zeroPage, 2, 5, .none, .documented⟩
  | 0x7#4 => ⟨.illSre, .zeroPage, 2, 5, .none, .illegal⟩
  | 0x8#4 => ⟨.pha, .implicit, 1, 3, .none, .documented⟩
  | 0x9#4 => ⟨.eor, .immediate, 2, 2, .none, .documented⟩
  | 0xA#4 => ⟨.lsr, .accumulator, 1, 2, .none, .documented⟩
  | 0xB#4 => ⟨.illAlr, .immediate, 2, 2, .none, .illegal⟩
  | 0xC#4 => ⟨.jmp, .absolute, 3, 3, .none, .documented⟩
  | 0xD#4 => ⟨.eor, .absolute, 3, 4, .none, .documented⟩
  | 0xE#4 => ⟨.lsr, .absolute, 3, 6, .none, .documented⟩
  | _ => ⟨.illSre, .absolute, 3, 6, .none, .illegal⟩

/-- R103, opcode bytes 0x50 to 0x5F. -/
def tableRow5 (lo : BitVec 4) : Row :=
  match lo with
  | 0x0#4 => ⟨.bvc, .relative, 2, 2, .branch, .documented⟩
  | 0x1#4 => ⟨.eor, .indirectIndexedY, 2, 5, .read, .documented⟩
  | 0x2#4 => ⟨.illKil, .implicit, 1, 2, .none, .illegal⟩
  | 0x3#4 => ⟨.illSre, .indirectIndexedY, 2, 8, .none, .illegal⟩
  | 0x4#4 => ⟨.illNop, .zeroPageX, 2, 4, .none, .illegal⟩
  | 0x5#4 => ⟨.eor, .zeroPageX, 2, 4, .none, .documented⟩
  | 0x6#4 => ⟨.lsr, .zeroPageX, 2, 6, .none, .documented⟩
  | 0x7#4 => ⟨.illSre, .zeroPageX, 2, 6, .none, .illegal⟩
  | 0x8#4 => ⟨.cli, .implicit, 1, 2, .none, .documented⟩
  | 0x9#4 => ⟨.eor, .absoluteY, 3, 4, .read, .documented⟩
  | 0xA#4 => ⟨.illNop, .implicit, 1, 2, .none, .illegal⟩
  | 0xB#4 => ⟨.illSre, .absoluteY, 3, 7, .none, .illegal⟩
  | 0xC#4 => ⟨.illNop, .absoluteX, 3, 4, .read, .illegal⟩
  | 0xD#4 => ⟨.eor, .absoluteX, 3, 4, .read, .documented⟩
  | 0xE#4 => ⟨.lsr, .absoluteX, 3, 7, .none, .documented⟩
  | _ => ⟨.illSre, .absoluteX, 3, 7, .none, .illegal⟩

/-- R103, opcode bytes 0x60 to 0x6F. -/
def tableRow6 (lo : BitVec 4) : Row :=
  match lo with
  | 0x0#4 => ⟨.rts, .implicit, 1, 6, .none, .documented⟩
  | 0x1#4 => ⟨.adc, .indexedIndirectX, 2, 6, .none, .documented⟩
  | 0x2#4 => ⟨.illKil, .implicit, 1, 2, .none, .illegal⟩
  | 0x3#4 => ⟨.illRra, .indexedIndirectX, 2, 8, .none, .illegal⟩
  | 0x4#4 => ⟨.illNop, .zeroPage, 2, 3, .none, .illegal⟩
  | 0x5#4 => ⟨.adc, .zeroPage, 2, 3, .none, .documented⟩
  | 0x6#4 => ⟨.ror, .zeroPage, 2, 5, .none, .documented⟩
  | 0x7#4 => ⟨.illRra, .zeroPage, 2, 5, .none, .illegal⟩
  | 0x8#4 => ⟨.pla, .implicit, 1, 4, .none, .documented⟩
  | 0x9#4 => ⟨.adc, .immediate, 2, 2, .none, .documented⟩
  | 0xA#4 => ⟨.ror, .accumulator, 1, 2, .none, .documented⟩
  | 0xB#4 => ⟨.illArr, .immediate, 2, 2, .none, .illegal⟩
  | 0xC#4 => ⟨.jmp, .indirect, 3, 5, .none, .documented⟩
  | 0xD#4 => ⟨.adc, .absolute, 3, 4, .none, .documented⟩
  | 0xE#4 => ⟨.ror, .absolute, 3, 6, .none, .documented⟩
  | _ => ⟨.illRra, .absolute, 3, 6, .none, .illegal⟩

/-- R103, opcode bytes 0x70 to 0x7F. -/
def tableRow7 (lo : BitVec 4) : Row :=
  match lo with
  | 0x0#4 => ⟨.bvs, .relative, 2, 2, .branch, .documented⟩
  | 0x1#4 => ⟨.adc, .indirectIndexedY, 2, 5, .read, .documented⟩
  | 0x2#4 => ⟨.illKil, .implicit, 1, 2, .none, .illegal⟩
  | 0x3#4 => ⟨.illRra, .indirectIndexedY, 2, 8, .none, .illegal⟩
  | 0x4#4 => ⟨.illNop, .zeroPageX, 2, 4, .none, .illegal⟩
  | 0x5#4 => ⟨.adc, .zeroPageX, 2, 4, .none, .documented⟩
  | 0x6#4 => ⟨.ror, .zeroPageX, 2, 6, .none, .documented⟩
  | 0x7#4 => ⟨.illRra, .zeroPageX, 2, 6, .none, .illegal⟩
  | 0x8#4 => ⟨.sei, .implicit, 1, 2, .none, .documented⟩
  | 0x9#4 => ⟨.adc, .absoluteY, 3, 4, .read, .documented⟩
  | 0xA#4 => ⟨.illNop, .implicit, 1, 2, .none, .illegal⟩
  | 0xB#4 => ⟨.illRra, .absoluteY, 3, 7, .none, .illegal⟩
  | 0xC#4 => ⟨.illNop, .absoluteX, 3, 4, .read, .illegal⟩
  | 0xD#4 => ⟨.adc, .absoluteX, 3, 4, .read, .documented⟩
  | 0xE#4 => ⟨.ror, .absoluteX, 3, 7, .none, .documented⟩
  | _ => ⟨.illRra, .absoluteX, 3, 7, .none, .illegal⟩

/-- R103, opcode bytes 0x80 to 0x8F. -/
def tableRow8 (lo : BitVec 4) : Row :=
  match lo with
  | 0x0#4 => ⟨.illNop, .immediate, 2, 2, .none, .illegal⟩
  | 0x1#4 => ⟨.sta, .indexedIndirectX, 2, 6, .none, .documented⟩
  | 0x2#4 => ⟨.illNop, .immediate, 2, 2, .none, .illegal⟩
  | 0x3#4 => ⟨.illSax, .indexedIndirectX, 2, 6, .none, .illegal⟩
  | 0x4#4 => ⟨.sty, .zeroPage, 2, 3, .none, .documented⟩
  | 0x5#4 => ⟨.sta, .zeroPage, 2, 3, .none, .documented⟩
  | 0x6#4 => ⟨.stx, .zeroPage, 2, 3, .none, .documented⟩
  | 0x7#4 => ⟨.illSax, .zeroPage, 2, 3, .none, .illegal⟩
  | 0x8#4 => ⟨.dey, .implicit, 1, 2, .none, .documented⟩
  | 0x9#4 => ⟨.illNop, .immediate, 2, 2, .none, .illegal⟩
  | 0xA#4 => ⟨.txa, .implicit, 1, 2, .none, .documented⟩
  | 0xB#4 => ⟨.illAne, .immediate, 2, 2, .none, .illegal⟩
  | 0xC#4 => ⟨.sty, .absolute, 3, 4, .none, .documented⟩
  | 0xD#4 => ⟨.sta, .absolute, 3, 4, .none, .documented⟩
  | 0xE#4 => ⟨.stx, .absolute, 3, 4, .none, .documented⟩
  | _ => ⟨.illSax, .absolute, 3, 4, .none, .illegal⟩

/-- R103, opcode bytes 0x90 to 0x9F. -/
def tableRow9 (lo : BitVec 4) : Row :=
  match lo with
  | 0x0#4 => ⟨.bcc, .relative, 2, 2, .branch, .documented⟩
  | 0x1#4 => ⟨.sta, .indirectIndexedY, 2, 6, .none, .documented⟩
  | 0x2#4 => ⟨.illKil, .implicit, 1, 2, .none, .illegal⟩
  | 0x3#4 => ⟨.illSha, .indirectIndexedY, 2, 6, .none, .illegal⟩
  | 0x4#4 => ⟨.sty, .zeroPageX, 2, 4, .none, .documented⟩
  | 0x5#4 => ⟨.sta, .zeroPageX, 2, 4, .none, .documented⟩
  | 0x6#4 => ⟨.stx, .zeroPageY, 2, 4, .none, .documented⟩
  | 0x7#4 => ⟨.illSax, .zeroPageY, 2, 4, .none, .illegal⟩
  | 0x8#4 => ⟨.tya, .implicit, 1, 2, .none, .documented⟩
  | 0x9#4 => ⟨.sta, .absoluteY, 3, 5, .none, .documented⟩
  | 0xA#4 => ⟨.txs, .implicit, 1, 2, .none, .documented⟩
  | 0xB#4 => ⟨.illTas, .absoluteY, 3, 5, .none, .illegal⟩
  | 0xC#4 => ⟨.illShy, .absoluteX, 3, 5, .none, .illegal⟩
  | 0xD#4 => ⟨.sta, .absoluteX, 3, 5, .none, .documented⟩
  | 0xE#4 => ⟨.illShx, .absoluteY, 3, 5, .none, .illegal⟩
  | _ => ⟨.illSha, .absoluteY, 3, 5, .none, .illegal⟩

/-- R103, opcode bytes 0xA0 to 0xAF. -/
def tableRowA (lo : BitVec 4) : Row :=
  match lo with
  | 0x0#4 => ⟨.ldy, .immediate, 2, 2, .none, .documented⟩
  | 0x1#4 => ⟨.lda, .indexedIndirectX, 2, 6, .none, .documented⟩
  | 0x2#4 => ⟨.ldx, .immediate, 2, 2, .none, .documented⟩
  | 0x3#4 => ⟨.illLax, .indexedIndirectX, 2, 6, .none, .illegal⟩
  | 0x4#4 => ⟨.ldy, .zeroPage, 2, 3, .none, .documented⟩
  | 0x5#4 => ⟨.lda, .zeroPage, 2, 3, .none, .documented⟩
  | 0x6#4 => ⟨.ldx, .zeroPage, 2, 3, .none, .documented⟩
  | 0x7#4 => ⟨.illLax, .zeroPage, 2, 3, .none, .illegal⟩
  | 0x8#4 => ⟨.tay, .implicit, 1, 2, .none, .documented⟩
  | 0x9#4 => ⟨.lda, .immediate, 2, 2, .none, .documented⟩
  | 0xA#4 => ⟨.tax, .implicit, 1, 2, .none, .documented⟩
  | 0xB#4 => ⟨.illLxa, .immediate, 2, 2, .none, .illegal⟩
  | 0xC#4 => ⟨.ldy, .absolute, 3, 4, .none, .documented⟩
  | 0xD#4 => ⟨.lda, .absolute, 3, 4, .none, .documented⟩
  | 0xE#4 => ⟨.ldx, .absolute, 3, 4, .none, .documented⟩
  | _ => ⟨.illLax, .absolute, 3, 4, .none, .illegal⟩

/-- R103, opcode bytes 0xB0 to 0xBF. -/
def tableRowB (lo : BitVec 4) : Row :=
  match lo with
  | 0x0#4 => ⟨.bcs, .relative, 2, 2, .branch, .documented⟩
  | 0x1#4 => ⟨.lda, .indirectIndexedY, 2, 5, .read, .documented⟩
  | 0x2#4 => ⟨.illKil, .implicit, 1, 2, .none, .illegal⟩
  | 0x3#4 => ⟨.illLax, .indirectIndexedY, 2, 5, .read, .illegal⟩
  | 0x4#4 => ⟨.ldy, .zeroPageX, 2, 4, .none, .documented⟩
  | 0x5#4 => ⟨.lda, .zeroPageX, 2, 4, .none, .documented⟩
  | 0x6#4 => ⟨.ldx, .zeroPageY, 2, 4, .none, .documented⟩
  | 0x7#4 => ⟨.illLax, .zeroPageY, 2, 4, .none, .illegal⟩
  | 0x8#4 => ⟨.clv, .implicit, 1, 2, .none, .documented⟩
  | 0x9#4 => ⟨.lda, .absoluteY, 3, 4, .read, .documented⟩
  | 0xA#4 => ⟨.tsx, .implicit, 1, 2, .none, .documented⟩
  | 0xB#4 => ⟨.illLas, .absoluteY, 3, 4, .read, .illegal⟩
  | 0xC#4 => ⟨.ldy, .absoluteX, 3, 4, .read, .documented⟩
  | 0xD#4 => ⟨.lda, .absoluteX, 3, 4, .read, .documented⟩
  | 0xE#4 => ⟨.ldx, .absoluteY, 3, 4, .read, .documented⟩
  | _ => ⟨.illLax, .absoluteY, 3, 4, .read, .illegal⟩

/-- R103, opcode bytes 0xC0 to 0xCF. -/
def tableRowC (lo : BitVec 4) : Row :=
  match lo with
  | 0x0#4 => ⟨.cpy, .immediate, 2, 2, .none, .documented⟩
  | 0x1#4 => ⟨.cmp, .indexedIndirectX, 2, 6, .none, .documented⟩
  | 0x2#4 => ⟨.illNop, .immediate, 2, 2, .none, .illegal⟩
  | 0x3#4 => ⟨.illDcp, .indexedIndirectX, 2, 8, .none, .illegal⟩
  | 0x4#4 => ⟨.cpy, .zeroPage, 2, 3, .none, .documented⟩
  | 0x5#4 => ⟨.cmp, .zeroPage, 2, 3, .none, .documented⟩
  | 0x6#4 => ⟨.dec, .zeroPage, 2, 5, .none, .documented⟩
  | 0x7#4 => ⟨.illDcp, .zeroPage, 2, 5, .none, .illegal⟩
  | 0x8#4 => ⟨.iny, .implicit, 1, 2, .none, .documented⟩
  | 0x9#4 => ⟨.cmp, .immediate, 2, 2, .none, .documented⟩
  | 0xA#4 => ⟨.dex, .implicit, 1, 2, .none, .documented⟩
  | 0xB#4 => ⟨.illSbx, .immediate, 2, 2, .none, .illegal⟩
  | 0xC#4 => ⟨.cpy, .absolute, 3, 4, .none, .documented⟩
  | 0xD#4 => ⟨.cmp, .absolute, 3, 4, .none, .documented⟩
  | 0xE#4 => ⟨.dec, .absolute, 3, 6, .none, .documented⟩
  | _ => ⟨.illDcp, .absolute, 3, 6, .none, .illegal⟩

/-- R103, opcode bytes 0xD0 to 0xDF. -/
def tableRowD (lo : BitVec 4) : Row :=
  match lo with
  | 0x0#4 => ⟨.bne, .relative, 2, 2, .branch, .documented⟩
  | 0x1#4 => ⟨.cmp, .indirectIndexedY, 2, 5, .read, .documented⟩
  | 0x2#4 => ⟨.illKil, .implicit, 1, 2, .none, .illegal⟩
  | 0x3#4 => ⟨.illDcp, .indirectIndexedY, 2, 8, .none, .illegal⟩
  | 0x4#4 => ⟨.illNop, .zeroPageX, 2, 4, .none, .illegal⟩
  | 0x5#4 => ⟨.cmp, .zeroPageX, 2, 4, .none, .documented⟩
  | 0x6#4 => ⟨.dec, .zeroPageX, 2, 6, .none, .documented⟩
  | 0x7#4 => ⟨.illDcp, .zeroPageX, 2, 6, .none, .illegal⟩
  | 0x8#4 => ⟨.cld, .implicit, 1, 2, .none, .documented⟩
  | 0x9#4 => ⟨.cmp, .absoluteY, 3, 4, .read, .documented⟩
  | 0xA#4 => ⟨.illNop, .implicit, 1, 2, .none, .illegal⟩
  | 0xB#4 => ⟨.illDcp, .absoluteY, 3, 7, .none, .illegal⟩
  | 0xC#4 => ⟨.illNop, .absoluteX, 3, 4, .read, .illegal⟩
  | 0xD#4 => ⟨.cmp, .absoluteX, 3, 4, .read, .documented⟩
  | 0xE#4 => ⟨.dec, .absoluteX, 3, 7, .none, .documented⟩
  | _ => ⟨.illDcp, .absoluteX, 3, 7, .none, .illegal⟩

/-- R103, opcode bytes 0xE0 to 0xEF. -/
def tableRowE (lo : BitVec 4) : Row :=
  match lo with
  | 0x0#4 => ⟨.cpx, .immediate, 2, 2, .none, .documented⟩
  | 0x1#4 => ⟨.sbc, .indexedIndirectX, 2, 6, .none, .documented⟩
  | 0x2#4 => ⟨.illNop, .immediate, 2, 2, .none, .illegal⟩
  | 0x3#4 => ⟨.illIsc, .indexedIndirectX, 2, 8, .none, .illegal⟩
  | 0x4#4 => ⟨.cpx, .zeroPage, 2, 3, .none, .documented⟩
  | 0x5#4 => ⟨.sbc, .zeroPage, 2, 3, .none, .documented⟩
  | 0x6#4 => ⟨.inc, .zeroPage, 2, 5, .none, .documented⟩
  | 0x7#4 => ⟨.illIsc, .zeroPage, 2, 5, .none, .illegal⟩
  | 0x8#4 => ⟨.inx, .implicit, 1, 2, .none, .documented⟩
  | 0x9#4 => ⟨.sbc, .immediate, 2, 2, .none, .documented⟩
  | 0xA#4 => ⟨.nop, .implicit, 1, 2, .none, .documented⟩
  | 0xB#4 => ⟨.illUsbc, .immediate, 2, 2, .none, .illegal⟩
  | 0xC#4 => ⟨.cpx, .absolute, 3, 4, .none, .documented⟩
  | 0xD#4 => ⟨.sbc, .absolute, 3, 4, .none, .documented⟩
  | 0xE#4 => ⟨.inc, .absolute, 3, 6, .none, .documented⟩
  | _ => ⟨.illIsc, .absolute, 3, 6, .none, .illegal⟩

/-- R103, opcode bytes 0xF0 to 0xFF. -/
def tableRowF (lo : BitVec 4) : Row :=
  match lo with
  | 0x0#4 => ⟨.beq, .relative, 2, 2, .branch, .documented⟩
  | 0x1#4 => ⟨.sbc, .indirectIndexedY, 2, 5, .read, .documented⟩
  | 0x2#4 => ⟨.illKil, .implicit, 1, 2, .none, .illegal⟩
  | 0x3#4 => ⟨.illIsc, .indirectIndexedY, 2, 8, .none, .illegal⟩
  | 0x4#4 => ⟨.illNop, .zeroPageX, 2, 4, .none, .illegal⟩
  | 0x5#4 => ⟨.sbc, .zeroPageX, 2, 4, .none, .documented⟩
  | 0x6#4 => ⟨.inc, .zeroPageX, 2, 6, .none, .documented⟩
  | 0x7#4 => ⟨.illIsc, .zeroPageX, 2, 6, .none, .illegal⟩
  | 0x8#4 => ⟨.sed, .implicit, 1, 2, .none, .documented⟩
  | 0x9#4 => ⟨.sbc, .absoluteY, 3, 4, .read, .documented⟩
  | 0xA#4 => ⟨.illNop, .implicit, 1, 2, .none, .illegal⟩
  | 0xB#4 => ⟨.illIsc, .absoluteY, 3, 7, .none, .illegal⟩
  | 0xC#4 => ⟨.illNop, .absoluteX, 3, 4, .read, .illegal⟩
  | 0xD#4 => ⟨.sbc, .absoluteX, 3, 4, .read, .documented⟩
  | 0xE#4 => ⟨.inc, .absoluteX, 3, 7, .none, .documented⟩
  | _ => ⟨.illIsc, .absoluteX, 3, 7, .none, .illegal⟩

/-- The dispatch table: `Table[op]` of R292, the row of R103 for an opcode byte. -/
def tableRow (op : Byte) : Row :=
  match highNibble op with
  | 0x0#4 => tableRow0 (lowNibble op)
  | 0x1#4 => tableRow1 (lowNibble op)
  | 0x2#4 => tableRow2 (lowNibble op)
  | 0x3#4 => tableRow3 (lowNibble op)
  | 0x4#4 => tableRow4 (lowNibble op)
  | 0x5#4 => tableRow5 (lowNibble op)
  | 0x6#4 => tableRow6 (lowNibble op)
  | 0x7#4 => tableRow7 (lowNibble op)
  | 0x8#4 => tableRow8 (lowNibble op)
  | 0x9#4 => tableRow9 (lowNibble op)
  | 0xA#4 => tableRowA (lowNibble op)
  | 0xB#4 => tableRowB (lowNibble op)
  | 0xC#4 => tableRowC (lowNibble op)
  | 0xD#4 => tableRowD (lowNibble op)
  | 0xE#4 => tableRowE (lowNibble op)
  | _ => tableRowF (lowNibble op)

/-- The length in bytes of the instruction an opcode byte begins (R90, R91), the padding byte of BRK counted. -/
def instructionSize (op : Byte) : Nat := (tableRow op).size

/-! ### The decoder -/

/-- R103, opcode bytes 0x00 to 0x0F, with the two bytes that may follow. -/
def decodeRow0 (lo : BitVec 4) (b1 b2 : Byte) : Instr :=
  match lo with
  | 0x0#4 => .brk b1
  | 0x1#4 => .oraIzx b1
  | 0x2#4 => .illKil02
  | 0x3#4 => .illSlo03 b1
  | 0x4#4 => .illNop04 b1
  | 0x5#4 => .oraZp b1
  | 0x6#4 => .aslZp b1
  | 0x7#4 => .illSlo07 b1
  | 0x8#4 => .php
  | 0x9#4 => .oraImm b1
  | 0xA#4 => .aslAcc
  | 0xB#4 => .illAnc0B b1
  | 0xC#4 => .illNop0C (wordOfBytes b2 b1)
  | 0xD#4 => .oraAbs (wordOfBytes b2 b1)
  | 0xE#4 => .aslAbs (wordOfBytes b2 b1)
  | _ => .illSlo0F (wordOfBytes b2 b1)

/-- R103, opcode bytes 0x10 to 0x1F, with the two bytes that may follow. -/
def decodeRow1 (lo : BitVec 4) (b1 b2 : Byte) : Instr :=
  match lo with
  | 0x0#4 => .bpl b1
  | 0x1#4 => .oraIzy b1
  | 0x2#4 => .illKil12
  | 0x3#4 => .illSlo13 b1
  | 0x4#4 => .illNop14 b1
  | 0x5#4 => .oraZpx b1
  | 0x6#4 => .aslZpx b1
  | 0x7#4 => .illSlo17 b1
  | 0x8#4 => .clc
  | 0x9#4 => .oraAby (wordOfBytes b2 b1)
  | 0xA#4 => .illNop1A
  | 0xB#4 => .illSlo1B (wordOfBytes b2 b1)
  | 0xC#4 => .illNop1C (wordOfBytes b2 b1)
  | 0xD#4 => .oraAbx (wordOfBytes b2 b1)
  | 0xE#4 => .aslAbx (wordOfBytes b2 b1)
  | _ => .illSlo1F (wordOfBytes b2 b1)

/-- R103, opcode bytes 0x20 to 0x2F, with the two bytes that may follow. -/
def decodeRow2 (lo : BitVec 4) (b1 b2 : Byte) : Instr :=
  match lo with
  | 0x0#4 => .jsr (wordOfBytes b2 b1)
  | 0x1#4 => .andIzx b1
  | 0x2#4 => .illKil22
  | 0x3#4 => .illRla23 b1
  | 0x4#4 => .bitZp b1
  | 0x5#4 => .andZp b1
  | 0x6#4 => .rolZp b1
  | 0x7#4 => .illRla27 b1
  | 0x8#4 => .plp
  | 0x9#4 => .andImm b1
  | 0xA#4 => .rolAcc
  | 0xB#4 => .illAnc2B b1
  | 0xC#4 => .bitAbs (wordOfBytes b2 b1)
  | 0xD#4 => .andAbs (wordOfBytes b2 b1)
  | 0xE#4 => .rolAbs (wordOfBytes b2 b1)
  | _ => .illRla2F (wordOfBytes b2 b1)

/-- R103, opcode bytes 0x30 to 0x3F, with the two bytes that may follow. -/
def decodeRow3 (lo : BitVec 4) (b1 b2 : Byte) : Instr :=
  match lo with
  | 0x0#4 => .bmi b1
  | 0x1#4 => .andIzy b1
  | 0x2#4 => .illKil32
  | 0x3#4 => .illRla33 b1
  | 0x4#4 => .illNop34 b1
  | 0x5#4 => .andZpx b1
  | 0x6#4 => .rolZpx b1
  | 0x7#4 => .illRla37 b1
  | 0x8#4 => .sec
  | 0x9#4 => .andAby (wordOfBytes b2 b1)
  | 0xA#4 => .illNop3A
  | 0xB#4 => .illRla3B (wordOfBytes b2 b1)
  | 0xC#4 => .illNop3C (wordOfBytes b2 b1)
  | 0xD#4 => .andAbx (wordOfBytes b2 b1)
  | 0xE#4 => .rolAbx (wordOfBytes b2 b1)
  | _ => .illRla3F (wordOfBytes b2 b1)

/-- R103, opcode bytes 0x40 to 0x4F, with the two bytes that may follow. -/
def decodeRow4 (lo : BitVec 4) (b1 b2 : Byte) : Instr :=
  match lo with
  | 0x0#4 => .rti
  | 0x1#4 => .eorIzx b1
  | 0x2#4 => .illKil42
  | 0x3#4 => .illSre43 b1
  | 0x4#4 => .illNop44 b1
  | 0x5#4 => .eorZp b1
  | 0x6#4 => .lsrZp b1
  | 0x7#4 => .illSre47 b1
  | 0x8#4 => .pha
  | 0x9#4 => .eorImm b1
  | 0xA#4 => .lsrAcc
  | 0xB#4 => .illAlr4B b1
  | 0xC#4 => .jmpAbs (wordOfBytes b2 b1)
  | 0xD#4 => .eorAbs (wordOfBytes b2 b1)
  | 0xE#4 => .lsrAbs (wordOfBytes b2 b1)
  | _ => .illSre4F (wordOfBytes b2 b1)

/-- R103, opcode bytes 0x50 to 0x5F, with the two bytes that may follow. -/
def decodeRow5 (lo : BitVec 4) (b1 b2 : Byte) : Instr :=
  match lo with
  | 0x0#4 => .bvc b1
  | 0x1#4 => .eorIzy b1
  | 0x2#4 => .illKil52
  | 0x3#4 => .illSre53 b1
  | 0x4#4 => .illNop54 b1
  | 0x5#4 => .eorZpx b1
  | 0x6#4 => .lsrZpx b1
  | 0x7#4 => .illSre57 b1
  | 0x8#4 => .cli
  | 0x9#4 => .eorAby (wordOfBytes b2 b1)
  | 0xA#4 => .illNop5A
  | 0xB#4 => .illSre5B (wordOfBytes b2 b1)
  | 0xC#4 => .illNop5C (wordOfBytes b2 b1)
  | 0xD#4 => .eorAbx (wordOfBytes b2 b1)
  | 0xE#4 => .lsrAbx (wordOfBytes b2 b1)
  | _ => .illSre5F (wordOfBytes b2 b1)

/-- R103, opcode bytes 0x60 to 0x6F, with the two bytes that may follow. -/
def decodeRow6 (lo : BitVec 4) (b1 b2 : Byte) : Instr :=
  match lo with
  | 0x0#4 => .rts
  | 0x1#4 => .adcIzx b1
  | 0x2#4 => .illKil62
  | 0x3#4 => .illRra63 b1
  | 0x4#4 => .illNop64 b1
  | 0x5#4 => .adcZp b1
  | 0x6#4 => .rorZp b1
  | 0x7#4 => .illRra67 b1
  | 0x8#4 => .pla
  | 0x9#4 => .adcImm b1
  | 0xA#4 => .rorAcc
  | 0xB#4 => .illArr6B b1
  | 0xC#4 => .jmpInd (wordOfBytes b2 b1)
  | 0xD#4 => .adcAbs (wordOfBytes b2 b1)
  | 0xE#4 => .rorAbs (wordOfBytes b2 b1)
  | _ => .illRra6F (wordOfBytes b2 b1)

/-- R103, opcode bytes 0x70 to 0x7F, with the two bytes that may follow. -/
def decodeRow7 (lo : BitVec 4) (b1 b2 : Byte) : Instr :=
  match lo with
  | 0x0#4 => .bvs b1
  | 0x1#4 => .adcIzy b1
  | 0x2#4 => .illKil72
  | 0x3#4 => .illRra73 b1
  | 0x4#4 => .illNop74 b1
  | 0x5#4 => .adcZpx b1
  | 0x6#4 => .rorZpx b1
  | 0x7#4 => .illRra77 b1
  | 0x8#4 => .sei
  | 0x9#4 => .adcAby (wordOfBytes b2 b1)
  | 0xA#4 => .illNop7A
  | 0xB#4 => .illRra7B (wordOfBytes b2 b1)
  | 0xC#4 => .illNop7C (wordOfBytes b2 b1)
  | 0xD#4 => .adcAbx (wordOfBytes b2 b1)
  | 0xE#4 => .rorAbx (wordOfBytes b2 b1)
  | _ => .illRra7F (wordOfBytes b2 b1)

/-- R103, opcode bytes 0x80 to 0x8F, with the two bytes that may follow. -/
def decodeRow8 (lo : BitVec 4) (b1 b2 : Byte) : Instr :=
  match lo with
  | 0x0#4 => .illNop80 b1
  | 0x1#4 => .staIzx b1
  | 0x2#4 => .illNop82 b1
  | 0x3#4 => .illSax83 b1
  | 0x4#4 => .styZp b1
  | 0x5#4 => .staZp b1
  | 0x6#4 => .stxZp b1
  | 0x7#4 => .illSax87 b1
  | 0x8#4 => .dey
  | 0x9#4 => .illNop89 b1
  | 0xA#4 => .txa
  | 0xB#4 => .illAne8B b1
  | 0xC#4 => .styAbs (wordOfBytes b2 b1)
  | 0xD#4 => .staAbs (wordOfBytes b2 b1)
  | 0xE#4 => .stxAbs (wordOfBytes b2 b1)
  | _ => .illSax8F (wordOfBytes b2 b1)

/-- R103, opcode bytes 0x90 to 0x9F, with the two bytes that may follow. -/
def decodeRow9 (lo : BitVec 4) (b1 b2 : Byte) : Instr :=
  match lo with
  | 0x0#4 => .bcc b1
  | 0x1#4 => .staIzy b1
  | 0x2#4 => .illKil92
  | 0x3#4 => .illSha93 b1
  | 0x4#4 => .styZpx b1
  | 0x5#4 => .staZpx b1
  | 0x6#4 => .stxZpy b1
  | 0x7#4 => .illSax97 b1
  | 0x8#4 => .tya
  | 0x9#4 => .staAby (wordOfBytes b2 b1)
  | 0xA#4 => .txs
  | 0xB#4 => .illTas9B (wordOfBytes b2 b1)
  | 0xC#4 => .illShy9C (wordOfBytes b2 b1)
  | 0xD#4 => .staAbx (wordOfBytes b2 b1)
  | 0xE#4 => .illShx9E (wordOfBytes b2 b1)
  | _ => .illSha9F (wordOfBytes b2 b1)

/-- R103, opcode bytes 0xA0 to 0xAF, with the two bytes that may follow. -/
def decodeRowA (lo : BitVec 4) (b1 b2 : Byte) : Instr :=
  match lo with
  | 0x0#4 => .ldyImm b1
  | 0x1#4 => .ldaIzx b1
  | 0x2#4 => .ldxImm b1
  | 0x3#4 => .illLaxA3 b1
  | 0x4#4 => .ldyZp b1
  | 0x5#4 => .ldaZp b1
  | 0x6#4 => .ldxZp b1
  | 0x7#4 => .illLaxA7 b1
  | 0x8#4 => .tay
  | 0x9#4 => .ldaImm b1
  | 0xA#4 => .tax
  | 0xB#4 => .illLxaAB b1
  | 0xC#4 => .ldyAbs (wordOfBytes b2 b1)
  | 0xD#4 => .ldaAbs (wordOfBytes b2 b1)
  | 0xE#4 => .ldxAbs (wordOfBytes b2 b1)
  | _ => .illLaxAF (wordOfBytes b2 b1)

/-- R103, opcode bytes 0xB0 to 0xBF, with the two bytes that may follow. -/
def decodeRowB (lo : BitVec 4) (b1 b2 : Byte) : Instr :=
  match lo with
  | 0x0#4 => .bcs b1
  | 0x1#4 => .ldaIzy b1
  | 0x2#4 => .illKilB2
  | 0x3#4 => .illLaxB3 b1
  | 0x4#4 => .ldyZpx b1
  | 0x5#4 => .ldaZpx b1
  | 0x6#4 => .ldxZpy b1
  | 0x7#4 => .illLaxB7 b1
  | 0x8#4 => .clv
  | 0x9#4 => .ldaAby (wordOfBytes b2 b1)
  | 0xA#4 => .tsx
  | 0xB#4 => .illLasBB (wordOfBytes b2 b1)
  | 0xC#4 => .ldyAbx (wordOfBytes b2 b1)
  | 0xD#4 => .ldaAbx (wordOfBytes b2 b1)
  | 0xE#4 => .ldxAby (wordOfBytes b2 b1)
  | _ => .illLaxBF (wordOfBytes b2 b1)

/-- R103, opcode bytes 0xC0 to 0xCF, with the two bytes that may follow. -/
def decodeRowC (lo : BitVec 4) (b1 b2 : Byte) : Instr :=
  match lo with
  | 0x0#4 => .cpyImm b1
  | 0x1#4 => .cmpIzx b1
  | 0x2#4 => .illNopC2 b1
  | 0x3#4 => .illDcpC3 b1
  | 0x4#4 => .cpyZp b1
  | 0x5#4 => .cmpZp b1
  | 0x6#4 => .decZp b1
  | 0x7#4 => .illDcpC7 b1
  | 0x8#4 => .iny
  | 0x9#4 => .cmpImm b1
  | 0xA#4 => .dex
  | 0xB#4 => .illSbxCB b1
  | 0xC#4 => .cpyAbs (wordOfBytes b2 b1)
  | 0xD#4 => .cmpAbs (wordOfBytes b2 b1)
  | 0xE#4 => .decAbs (wordOfBytes b2 b1)
  | _ => .illDcpCF (wordOfBytes b2 b1)

/-- R103, opcode bytes 0xD0 to 0xDF, with the two bytes that may follow. -/
def decodeRowD (lo : BitVec 4) (b1 b2 : Byte) : Instr :=
  match lo with
  | 0x0#4 => .bne b1
  | 0x1#4 => .cmpIzy b1
  | 0x2#4 => .illKilD2
  | 0x3#4 => .illDcpD3 b1
  | 0x4#4 => .illNopD4 b1
  | 0x5#4 => .cmpZpx b1
  | 0x6#4 => .decZpx b1
  | 0x7#4 => .illDcpD7 b1
  | 0x8#4 => .cld
  | 0x9#4 => .cmpAby (wordOfBytes b2 b1)
  | 0xA#4 => .illNopDA
  | 0xB#4 => .illDcpDB (wordOfBytes b2 b1)
  | 0xC#4 => .illNopDC (wordOfBytes b2 b1)
  | 0xD#4 => .cmpAbx (wordOfBytes b2 b1)
  | 0xE#4 => .decAbx (wordOfBytes b2 b1)
  | _ => .illDcpDF (wordOfBytes b2 b1)

/-- R103, opcode bytes 0xE0 to 0xEF, with the two bytes that may follow. -/
def decodeRowE (lo : BitVec 4) (b1 b2 : Byte) : Instr :=
  match lo with
  | 0x0#4 => .cpxImm b1
  | 0x1#4 => .sbcIzx b1
  | 0x2#4 => .illNopE2 b1
  | 0x3#4 => .illIscE3 b1
  | 0x4#4 => .cpxZp b1
  | 0x5#4 => .sbcZp b1
  | 0x6#4 => .incZp b1
  | 0x7#4 => .illIscE7 b1
  | 0x8#4 => .inx
  | 0x9#4 => .sbcImm b1
  | 0xA#4 => .nop
  | 0xB#4 => .illUsbcEB b1
  | 0xC#4 => .cpxAbs (wordOfBytes b2 b1)
  | 0xD#4 => .sbcAbs (wordOfBytes b2 b1)
  | 0xE#4 => .incAbs (wordOfBytes b2 b1)
  | _ => .illIscEF (wordOfBytes b2 b1)

/-- R103, opcode bytes 0xF0 to 0xFF, with the two bytes that may follow. -/
def decodeRowF (lo : BitVec 4) (b1 b2 : Byte) : Instr :=
  match lo with
  | 0x0#4 => .beq b1
  | 0x1#4 => .sbcIzy b1
  | 0x2#4 => .illKilF2
  | 0x3#4 => .illIscF3 b1
  | 0x4#4 => .illNopF4 b1
  | 0x5#4 => .sbcZpx b1
  | 0x6#4 => .incZpx b1
  | 0x7#4 => .illIscF7 b1
  | 0x8#4 => .sed
  | 0x9#4 => .sbcAby (wordOfBytes b2 b1)
  | 0xA#4 => .illNopFA
  | 0xB#4 => .illIscFB (wordOfBytes b2 b1)
  | 0xC#4 => .illNopFC (wordOfBytes b2 b1)
  | 0xD#4 => .sbcAbx (wordOfBytes b2 b1)
  | 0xE#4 => .incAbx (wordOfBytes b2 b1)
  | _ => .illIscFF (wordOfBytes b2 b1)

/-- The instruction that begins with the opcode byte `b0`, if `b1` and `b2` are the bytes after it; bytes past the
instruction's length are not looked at (R90, R92, R96). -/
def decodeBytes (b0 b1 b2 : Byte) : Instr :=
  match highNibble b0 with
  | 0x0#4 => decodeRow0 (lowNibble b0) b1 b2
  | 0x1#4 => decodeRow1 (lowNibble b0) b1 b2
  | 0x2#4 => decodeRow2 (lowNibble b0) b1 b2
  | 0x3#4 => decodeRow3 (lowNibble b0) b1 b2
  | 0x4#4 => decodeRow4 (lowNibble b0) b1 b2
  | 0x5#4 => decodeRow5 (lowNibble b0) b1 b2
  | 0x6#4 => decodeRow6 (lowNibble b0) b1 b2
  | 0x7#4 => decodeRow7 (lowNibble b0) b1 b2
  | 0x8#4 => decodeRow8 (lowNibble b0) b1 b2
  | 0x9#4 => decodeRow9 (lowNibble b0) b1 b2
  | 0xA#4 => decodeRowA (lowNibble b0) b1 b2
  | 0xB#4 => decodeRowB (lowNibble b0) b1 b2
  | 0xC#4 => decodeRowC (lowNibble b0) b1 b2
  | 0xD#4 => decodeRowD (lowNibble b0) b1 b2
  | 0xE#4 => decodeRowE (lowNibble b0) b1 b2
  | _ => decodeRowF (lowNibble b0) b1 b2

/-- Decode the start of a byte string: the opcode byte gives the length, one, two or three bytes, and a string too short for it
is rejected. -/
def decode : List Byte → DecodeResult
  | [] => .rejected .noOpcode
  | b0 :: rest =>
    match instructionSize b0, rest with
    | 1, r => .ok (decodeBytes b0 0#8 0#8) r
    | 2, b1 :: r => .ok (decodeBytes b0 b1 0#8) r
    | 3, b1 :: b2 :: r => .ok (decodeBytes b0 b1 b2) r
    | _, _ => .rejected .missingOperand

/-! ### The columns of an instruction's own row -/

/-- The byte count of a mode (R91). -/
def modeSize : Mode → Nat
  | .implicit => 1
  | .accumulator => 1
  | .immediate => 2
  | .relative => 2
  | .absolute => 3
  | .zeroPage => 2
  | .indirect => 3
  | .absoluteX => 3
  | .absoluteY => 3
  | .zeroPageX => 2
  | .zeroPageY => 2
  | .indexedIndirectX => 2
  | .indirectIndexedY => 2

/-- The mode tag of an operand (R94). -/
def operandMode : Operand → Mode
  | .implicit => .implicit
  | .accumulator => .accumulator
  | .immediate _ => .immediate
  | .relative _ => .relative
  | .absolute _ => .absolute
  | .zeroPage _ => .zeroPage
  | .indirect _ => .indirect
  | .absoluteX _ => .absoluteX
  | .absoluteY _ => .absoluteY
  | .zeroPageX _ => .zeroPageX
  | .zeroPageY _ => .zeroPageY
  | .indexedIndirectX _ => .indexedIndirectX
  | .indirectIndexedY _ => .indirectIndexedY

/-- The operand bytes of an operand, in address order (R91, R92, R64). -/
def operandBytes : Operand → List Byte
  | .implicit => []
  | .accumulator => []
  | .immediate imm => [imm]
  | .relative rel => [rel]
  | .absolute addr => [lowByte addr, highByte addr]
  | .zeroPage zp => [zp]
  | .indirect ptr => [lowByte ptr, highByte ptr]
  | .absoluteX base => [lowByte base, highByte base]
  | .absoluteY base => [lowByte base, highByte base]
  | .zeroPageX zp => [zp]
  | .zeroPageY zp => [zp]
  | .indexedIndirectX zp => [zp]
  | .indirectIndexedY zp => [zp]

/-- The opcode byte of an instruction (R103). -/
def Instr.opcode : Instr → Byte
  | .brk _ => 0x00#8
  | .oraIzx _ => 0x01#8
  | .illKil02 => 0x02#8
  | .illSlo03 _ => 0x03#8
  | .illNop04 _ => 0x04#8
  | .oraZp _ => 0x05#8
  | .aslZp _ => 0x06#8
  | .illSlo07 _ => 0x07#8
  | .php => 0x08#8
  | .oraImm _ => 0x09#8
  | .aslAcc => 0x0A#8
  | .illAnc0B _ => 0x0B#8
  | .illNop0C _ => 0x0C#8
  | .oraAbs _ => 0x0D#8
  | .aslAbs _ => 0x0E#8
  | .illSlo0F _ => 0x0F#8
  | .bpl _ => 0x10#8
  | .oraIzy _ => 0x11#8
  | .illKil12 => 0x12#8
  | .illSlo13 _ => 0x13#8
  | .illNop14 _ => 0x14#8
  | .oraZpx _ => 0x15#8
  | .aslZpx _ => 0x16#8
  | .illSlo17 _ => 0x17#8
  | .clc => 0x18#8
  | .oraAby _ => 0x19#8
  | .illNop1A => 0x1A#8
  | .illSlo1B _ => 0x1B#8
  | .illNop1C _ => 0x1C#8
  | .oraAbx _ => 0x1D#8
  | .aslAbx _ => 0x1E#8
  | .illSlo1F _ => 0x1F#8
  | .jsr _ => 0x20#8
  | .andIzx _ => 0x21#8
  | .illKil22 => 0x22#8
  | .illRla23 _ => 0x23#8
  | .bitZp _ => 0x24#8
  | .andZp _ => 0x25#8
  | .rolZp _ => 0x26#8
  | .illRla27 _ => 0x27#8
  | .plp => 0x28#8
  | .andImm _ => 0x29#8
  | .rolAcc => 0x2A#8
  | .illAnc2B _ => 0x2B#8
  | .bitAbs _ => 0x2C#8
  | .andAbs _ => 0x2D#8
  | .rolAbs _ => 0x2E#8
  | .illRla2F _ => 0x2F#8
  | .bmi _ => 0x30#8
  | .andIzy _ => 0x31#8
  | .illKil32 => 0x32#8
  | .illRla33 _ => 0x33#8
  | .illNop34 _ => 0x34#8
  | .andZpx _ => 0x35#8
  | .rolZpx _ => 0x36#8
  | .illRla37 _ => 0x37#8
  | .sec => 0x38#8
  | .andAby _ => 0x39#8
  | .illNop3A => 0x3A#8
  | .illRla3B _ => 0x3B#8
  | .illNop3C _ => 0x3C#8
  | .andAbx _ => 0x3D#8
  | .rolAbx _ => 0x3E#8
  | .illRla3F _ => 0x3F#8
  | .rti => 0x40#8
  | .eorIzx _ => 0x41#8
  | .illKil42 => 0x42#8
  | .illSre43 _ => 0x43#8
  | .illNop44 _ => 0x44#8
  | .eorZp _ => 0x45#8
  | .lsrZp _ => 0x46#8
  | .illSre47 _ => 0x47#8
  | .pha => 0x48#8
  | .eorImm _ => 0x49#8
  | .lsrAcc => 0x4A#8
  | .illAlr4B _ => 0x4B#8
  | .jmpAbs _ => 0x4C#8
  | .eorAbs _ => 0x4D#8
  | .lsrAbs _ => 0x4E#8
  | .illSre4F _ => 0x4F#8
  | .bvc _ => 0x50#8
  | .eorIzy _ => 0x51#8
  | .illKil52 => 0x52#8
  | .illSre53 _ => 0x53#8
  | .illNop54 _ => 0x54#8
  | .eorZpx _ => 0x55#8
  | .lsrZpx _ => 0x56#8
  | .illSre57 _ => 0x57#8
  | .cli => 0x58#8
  | .eorAby _ => 0x59#8
  | .illNop5A => 0x5A#8
  | .illSre5B _ => 0x5B#8
  | .illNop5C _ => 0x5C#8
  | .eorAbx _ => 0x5D#8
  | .lsrAbx _ => 0x5E#8
  | .illSre5F _ => 0x5F#8
  | .rts => 0x60#8
  | .adcIzx _ => 0x61#8
  | .illKil62 => 0x62#8
  | .illRra63 _ => 0x63#8
  | .illNop64 _ => 0x64#8
  | .adcZp _ => 0x65#8
  | .rorZp _ => 0x66#8
  | .illRra67 _ => 0x67#8
  | .pla => 0x68#8
  | .adcImm _ => 0x69#8
  | .rorAcc => 0x6A#8
  | .illArr6B _ => 0x6B#8
  | .jmpInd _ => 0x6C#8
  | .adcAbs _ => 0x6D#8
  | .rorAbs _ => 0x6E#8
  | .illRra6F _ => 0x6F#8
  | .bvs _ => 0x70#8
  | .adcIzy _ => 0x71#8
  | .illKil72 => 0x72#8
  | .illRra73 _ => 0x73#8
  | .illNop74 _ => 0x74#8
  | .adcZpx _ => 0x75#8
  | .rorZpx _ => 0x76#8
  | .illRra77 _ => 0x77#8
  | .sei => 0x78#8
  | .adcAby _ => 0x79#8
  | .illNop7A => 0x7A#8
  | .illRra7B _ => 0x7B#8
  | .illNop7C _ => 0x7C#8
  | .adcAbx _ => 0x7D#8
  | .rorAbx _ => 0x7E#8
  | .illRra7F _ => 0x7F#8
  | .illNop80 _ => 0x80#8
  | .staIzx _ => 0x81#8
  | .illNop82 _ => 0x82#8
  | .illSax83 _ => 0x83#8
  | .styZp _ => 0x84#8
  | .staZp _ => 0x85#8
  | .stxZp _ => 0x86#8
  | .illSax87 _ => 0x87#8
  | .dey => 0x88#8
  | .illNop89 _ => 0x89#8
  | .txa => 0x8A#8
  | .illAne8B _ => 0x8B#8
  | .styAbs _ => 0x8C#8
  | .staAbs _ => 0x8D#8
  | .stxAbs _ => 0x8E#8
  | .illSax8F _ => 0x8F#8
  | .bcc _ => 0x90#8
  | .staIzy _ => 0x91#8
  | .illKil92 => 0x92#8
  | .illSha93 _ => 0x93#8
  | .styZpx _ => 0x94#8
  | .staZpx _ => 0x95#8
  | .stxZpy _ => 0x96#8
  | .illSax97 _ => 0x97#8
  | .tya => 0x98#8
  | .staAby _ => 0x99#8
  | .txs => 0x9A#8
  | .illTas9B _ => 0x9B#8
  | .illShy9C _ => 0x9C#8
  | .staAbx _ => 0x9D#8
  | .illShx9E _ => 0x9E#8
  | .illSha9F _ => 0x9F#8
  | .ldyImm _ => 0xA0#8
  | .ldaIzx _ => 0xA1#8
  | .ldxImm _ => 0xA2#8
  | .illLaxA3 _ => 0xA3#8
  | .ldyZp _ => 0xA4#8
  | .ldaZp _ => 0xA5#8
  | .ldxZp _ => 0xA6#8
  | .illLaxA7 _ => 0xA7#8
  | .tay => 0xA8#8
  | .ldaImm _ => 0xA9#8
  | .tax => 0xAA#8
  | .illLxaAB _ => 0xAB#8
  | .ldyAbs _ => 0xAC#8
  | .ldaAbs _ => 0xAD#8
  | .ldxAbs _ => 0xAE#8
  | .illLaxAF _ => 0xAF#8
  | .bcs _ => 0xB0#8
  | .ldaIzy _ => 0xB1#8
  | .illKilB2 => 0xB2#8
  | .illLaxB3 _ => 0xB3#8
  | .ldyZpx _ => 0xB4#8
  | .ldaZpx _ => 0xB5#8
  | .ldxZpy _ => 0xB6#8
  | .illLaxB7 _ => 0xB7#8
  | .clv => 0xB8#8
  | .ldaAby _ => 0xB9#8
  | .tsx => 0xBA#8
  | .illLasBB _ => 0xBB#8
  | .ldyAbx _ => 0xBC#8
  | .ldaAbx _ => 0xBD#8
  | .ldxAby _ => 0xBE#8
  | .illLaxBF _ => 0xBF#8
  | .cpyImm _ => 0xC0#8
  | .cmpIzx _ => 0xC1#8
  | .illNopC2 _ => 0xC2#8
  | .illDcpC3 _ => 0xC3#8
  | .cpyZp _ => 0xC4#8
  | .cmpZp _ => 0xC5#8
  | .decZp _ => 0xC6#8
  | .illDcpC7 _ => 0xC7#8
  | .iny => 0xC8#8
  | .cmpImm _ => 0xC9#8
  | .dex => 0xCA#8
  | .illSbxCB _ => 0xCB#8
  | .cpyAbs _ => 0xCC#8
  | .cmpAbs _ => 0xCD#8
  | .decAbs _ => 0xCE#8
  | .illDcpCF _ => 0xCF#8
  | .bne _ => 0xD0#8
  | .cmpIzy _ => 0xD1#8
  | .illKilD2 => 0xD2#8
  | .illDcpD3 _ => 0xD3#8
  | .illNopD4 _ => 0xD4#8
  | .cmpZpx _ => 0xD5#8
  | .decZpx _ => 0xD6#8
  | .illDcpD7 _ => 0xD7#8
  | .cld => 0xD8#8
  | .cmpAby _ => 0xD9#8
  | .illNopDA => 0xDA#8
  | .illDcpDB _ => 0xDB#8
  | .illNopDC _ => 0xDC#8
  | .cmpAbx _ => 0xDD#8
  | .decAbx _ => 0xDE#8
  | .illDcpDF _ => 0xDF#8
  | .cpxImm _ => 0xE0#8
  | .sbcIzx _ => 0xE1#8
  | .illNopE2 _ => 0xE2#8
  | .illIscE3 _ => 0xE3#8
  | .cpxZp _ => 0xE4#8
  | .sbcZp _ => 0xE5#8
  | .incZp _ => 0xE6#8
  | .illIscE7 _ => 0xE7#8
  | .inx => 0xE8#8
  | .sbcImm _ => 0xE9#8
  | .nop => 0xEA#8
  | .illUsbcEB _ => 0xEB#8
  | .cpxAbs _ => 0xEC#8
  | .sbcAbs _ => 0xED#8
  | .incAbs _ => 0xEE#8
  | .illIscEF _ => 0xEF#8
  | .beq _ => 0xF0#8
  | .sbcIzy _ => 0xF1#8
  | .illKilF2 => 0xF2#8
  | .illIscF3 _ => 0xF3#8
  | .illNopF4 _ => 0xF4#8
  | .sbcZpx _ => 0xF5#8
  | .incZpx _ => 0xF6#8
  | .illIscF7 _ => 0xF7#8
  | .sed => 0xF8#8
  | .sbcAby _ => 0xF9#8
  | .illNopFA => 0xFA#8
  | .illIscFB _ => 0xFB#8
  | .illNopFC _ => 0xFC#8
  | .sbcAbx _ => 0xFD#8
  | .incAbx _ => 0xFE#8
  | .illIscFF _ => 0xFF#8

/-- The mnemonic of an instruction (R103). -/
def Instr.mnemonic : Instr → Mnemonic
  | .brk _ => .brk
  | .oraIzx _ => .ora
  | .illKil02 => .illKil
  | .illSlo03 _ => .illSlo
  | .illNop04 _ => .illNop
  | .oraZp _ => .ora
  | .aslZp _ => .asl
  | .illSlo07 _ => .illSlo
  | .php => .php
  | .oraImm _ => .ora
  | .aslAcc => .asl
  | .illAnc0B _ => .illAnc
  | .illNop0C _ => .illNop
  | .oraAbs _ => .ora
  | .aslAbs _ => .asl
  | .illSlo0F _ => .illSlo
  | .bpl _ => .bpl
  | .oraIzy _ => .ora
  | .illKil12 => .illKil
  | .illSlo13 _ => .illSlo
  | .illNop14 _ => .illNop
  | .oraZpx _ => .ora
  | .aslZpx _ => .asl
  | .illSlo17 _ => .illSlo
  | .clc => .clc
  | .oraAby _ => .ora
  | .illNop1A => .illNop
  | .illSlo1B _ => .illSlo
  | .illNop1C _ => .illNop
  | .oraAbx _ => .ora
  | .aslAbx _ => .asl
  | .illSlo1F _ => .illSlo
  | .jsr _ => .jsr
  | .andIzx _ => .and
  | .illKil22 => .illKil
  | .illRla23 _ => .illRla
  | .bitZp _ => .bit
  | .andZp _ => .and
  | .rolZp _ => .rol
  | .illRla27 _ => .illRla
  | .plp => .plp
  | .andImm _ => .and
  | .rolAcc => .rol
  | .illAnc2B _ => .illAnc
  | .bitAbs _ => .bit
  | .andAbs _ => .and
  | .rolAbs _ => .rol
  | .illRla2F _ => .illRla
  | .bmi _ => .bmi
  | .andIzy _ => .and
  | .illKil32 => .illKil
  | .illRla33 _ => .illRla
  | .illNop34 _ => .illNop
  | .andZpx _ => .and
  | .rolZpx _ => .rol
  | .illRla37 _ => .illRla
  | .sec => .sec
  | .andAby _ => .and
  | .illNop3A => .illNop
  | .illRla3B _ => .illRla
  | .illNop3C _ => .illNop
  | .andAbx _ => .and
  | .rolAbx _ => .rol
  | .illRla3F _ => .illRla
  | .rti => .rti
  | .eorIzx _ => .eor
  | .illKil42 => .illKil
  | .illSre43 _ => .illSre
  | .illNop44 _ => .illNop
  | .eorZp _ => .eor
  | .lsrZp _ => .lsr
  | .illSre47 _ => .illSre
  | .pha => .pha
  | .eorImm _ => .eor
  | .lsrAcc => .lsr
  | .illAlr4B _ => .illAlr
  | .jmpAbs _ => .jmp
  | .eorAbs _ => .eor
  | .lsrAbs _ => .lsr
  | .illSre4F _ => .illSre
  | .bvc _ => .bvc
  | .eorIzy _ => .eor
  | .illKil52 => .illKil
  | .illSre53 _ => .illSre
  | .illNop54 _ => .illNop
  | .eorZpx _ => .eor
  | .lsrZpx _ => .lsr
  | .illSre57 _ => .illSre
  | .cli => .cli
  | .eorAby _ => .eor
  | .illNop5A => .illNop
  | .illSre5B _ => .illSre
  | .illNop5C _ => .illNop
  | .eorAbx _ => .eor
  | .lsrAbx _ => .lsr
  | .illSre5F _ => .illSre
  | .rts => .rts
  | .adcIzx _ => .adc
  | .illKil62 => .illKil
  | .illRra63 _ => .illRra
  | .illNop64 _ => .illNop
  | .adcZp _ => .adc
  | .rorZp _ => .ror
  | .illRra67 _ => .illRra
  | .pla => .pla
  | .adcImm _ => .adc
  | .rorAcc => .ror
  | .illArr6B _ => .illArr
  | .jmpInd _ => .jmp
  | .adcAbs _ => .adc
  | .rorAbs _ => .ror
  | .illRra6F _ => .illRra
  | .bvs _ => .bvs
  | .adcIzy _ => .adc
  | .illKil72 => .illKil
  | .illRra73 _ => .illRra
  | .illNop74 _ => .illNop
  | .adcZpx _ => .adc
  | .rorZpx _ => .ror
  | .illRra77 _ => .illRra
  | .sei => .sei
  | .adcAby _ => .adc
  | .illNop7A => .illNop
  | .illRra7B _ => .illRra
  | .illNop7C _ => .illNop
  | .adcAbx _ => .adc
  | .rorAbx _ => .ror
  | .illRra7F _ => .illRra
  | .illNop80 _ => .illNop
  | .staIzx _ => .sta
  | .illNop82 _ => .illNop
  | .illSax83 _ => .illSax
  | .styZp _ => .sty
  | .staZp _ => .sta
  | .stxZp _ => .stx
  | .illSax87 _ => .illSax
  | .dey => .dey
  | .illNop89 _ => .illNop
  | .txa => .txa
  | .illAne8B _ => .illAne
  | .styAbs _ => .sty
  | .staAbs _ => .sta
  | .stxAbs _ => .stx
  | .illSax8F _ => .illSax
  | .bcc _ => .bcc
  | .staIzy _ => .sta
  | .illKil92 => .illKil
  | .illSha93 _ => .illSha
  | .styZpx _ => .sty
  | .staZpx _ => .sta
  | .stxZpy _ => .stx
  | .illSax97 _ => .illSax
  | .tya => .tya
  | .staAby _ => .sta
  | .txs => .txs
  | .illTas9B _ => .illTas
  | .illShy9C _ => .illShy
  | .staAbx _ => .sta
  | .illShx9E _ => .illShx
  | .illSha9F _ => .illSha
  | .ldyImm _ => .ldy
  | .ldaIzx _ => .lda
  | .ldxImm _ => .ldx
  | .illLaxA3 _ => .illLax
  | .ldyZp _ => .ldy
  | .ldaZp _ => .lda
  | .ldxZp _ => .ldx
  | .illLaxA7 _ => .illLax
  | .tay => .tay
  | .ldaImm _ => .lda
  | .tax => .tax
  | .illLxaAB _ => .illLxa
  | .ldyAbs _ => .ldy
  | .ldaAbs _ => .lda
  | .ldxAbs _ => .ldx
  | .illLaxAF _ => .illLax
  | .bcs _ => .bcs
  | .ldaIzy _ => .lda
  | .illKilB2 => .illKil
  | .illLaxB3 _ => .illLax
  | .ldyZpx _ => .ldy
  | .ldaZpx _ => .lda
  | .ldxZpy _ => .ldx
  | .illLaxB7 _ => .illLax
  | .clv => .clv
  | .ldaAby _ => .lda
  | .tsx => .tsx
  | .illLasBB _ => .illLas
  | .ldyAbx _ => .ldy
  | .ldaAbx _ => .lda
  | .ldxAby _ => .ldx
  | .illLaxBF _ => .illLax
  | .cpyImm _ => .cpy
  | .cmpIzx _ => .cmp
  | .illNopC2 _ => .illNop
  | .illDcpC3 _ => .illDcp
  | .cpyZp _ => .cpy
  | .cmpZp _ => .cmp
  | .decZp _ => .dec
  | .illDcpC7 _ => .illDcp
  | .iny => .iny
  | .cmpImm _ => .cmp
  | .dex => .dex
  | .illSbxCB _ => .illSbx
  | .cpyAbs _ => .cpy
  | .cmpAbs _ => .cmp
  | .decAbs _ => .dec
  | .illDcpCF _ => .illDcp
  | .bne _ => .bne
  | .cmpIzy _ => .cmp
  | .illKilD2 => .illKil
  | .illDcpD3 _ => .illDcp
  | .illNopD4 _ => .illNop
  | .cmpZpx _ => .cmp
  | .decZpx _ => .dec
  | .illDcpD7 _ => .illDcp
  | .cld => .cld
  | .cmpAby _ => .cmp
  | .illNopDA => .illNop
  | .illDcpDB _ => .illDcp
  | .illNopDC _ => .illNop
  | .cmpAbx _ => .cmp
  | .decAbx _ => .dec
  | .illDcpDF _ => .illDcp
  | .cpxImm _ => .cpx
  | .sbcIzx _ => .sbc
  | .illNopE2 _ => .illNop
  | .illIscE3 _ => .illIsc
  | .cpxZp _ => .cpx
  | .sbcZp _ => .sbc
  | .incZp _ => .inc
  | .illIscE7 _ => .illIsc
  | .inx => .inx
  | .sbcImm _ => .sbc
  | .nop => .nop
  | .illUsbcEB _ => .illUsbc
  | .cpxAbs _ => .cpx
  | .sbcAbs _ => .sbc
  | .incAbs _ => .inc
  | .illIscEF _ => .illIsc
  | .beq _ => .beq
  | .sbcIzy _ => .sbc
  | .illKilF2 => .illKil
  | .illIscF3 _ => .illIsc
  | .illNopF4 _ => .illNop
  | .sbcZpx _ => .sbc
  | .incZpx _ => .inc
  | .illIscF7 _ => .illIsc
  | .sed => .sed
  | .sbcAby _ => .sbc
  | .illNopFA => .illNop
  | .illIscFB _ => .illIsc
  | .illNopFC _ => .illNop
  | .sbcAbx _ => .sbc
  | .incAbx _ => .inc
  | .illIscFF _ => .illIsc

/-- The operand of an instruction, in the mode of its row (R103). The padding byte of BRK, whose mode is Implicit, is no
operand (R270). -/
def Instr.operand : Instr → Operand
  | .brk _ => .implicit
  | .oraIzx zp => .indexedIndirectX zp
  | .illKil02 => .implicit
  | .illSlo03 zp => .indexedIndirectX zp
  | .illNop04 zp => .zeroPage zp
  | .oraZp zp => .zeroPage zp
  | .aslZp zp => .zeroPage zp
  | .illSlo07 zp => .zeroPage zp
  | .php => .implicit
  | .oraImm imm => .immediate imm
  | .aslAcc => .accumulator
  | .illAnc0B imm => .immediate imm
  | .illNop0C addr => .absolute addr
  | .oraAbs addr => .absolute addr
  | .aslAbs addr => .absolute addr
  | .illSlo0F addr => .absolute addr
  | .bpl rel => .relative rel
  | .oraIzy zp => .indirectIndexedY zp
  | .illKil12 => .implicit
  | .illSlo13 zp => .indirectIndexedY zp
  | .illNop14 zp => .zeroPageX zp
  | .oraZpx zp => .zeroPageX zp
  | .aslZpx zp => .zeroPageX zp
  | .illSlo17 zp => .zeroPageX zp
  | .clc => .implicit
  | .oraAby base => .absoluteY base
  | .illNop1A => .implicit
  | .illSlo1B base => .absoluteY base
  | .illNop1C base => .absoluteX base
  | .oraAbx base => .absoluteX base
  | .aslAbx base => .absoluteX base
  | .illSlo1F base => .absoluteX base
  | .jsr addr => .absolute addr
  | .andIzx zp => .indexedIndirectX zp
  | .illKil22 => .implicit
  | .illRla23 zp => .indexedIndirectX zp
  | .bitZp zp => .zeroPage zp
  | .andZp zp => .zeroPage zp
  | .rolZp zp => .zeroPage zp
  | .illRla27 zp => .zeroPage zp
  | .plp => .implicit
  | .andImm imm => .immediate imm
  | .rolAcc => .accumulator
  | .illAnc2B imm => .immediate imm
  | .bitAbs addr => .absolute addr
  | .andAbs addr => .absolute addr
  | .rolAbs addr => .absolute addr
  | .illRla2F addr => .absolute addr
  | .bmi rel => .relative rel
  | .andIzy zp => .indirectIndexedY zp
  | .illKil32 => .implicit
  | .illRla33 zp => .indirectIndexedY zp
  | .illNop34 zp => .zeroPageX zp
  | .andZpx zp => .zeroPageX zp
  | .rolZpx zp => .zeroPageX zp
  | .illRla37 zp => .zeroPageX zp
  | .sec => .implicit
  | .andAby base => .absoluteY base
  | .illNop3A => .implicit
  | .illRla3B base => .absoluteY base
  | .illNop3C base => .absoluteX base
  | .andAbx base => .absoluteX base
  | .rolAbx base => .absoluteX base
  | .illRla3F base => .absoluteX base
  | .rti => .implicit
  | .eorIzx zp => .indexedIndirectX zp
  | .illKil42 => .implicit
  | .illSre43 zp => .indexedIndirectX zp
  | .illNop44 zp => .zeroPage zp
  | .eorZp zp => .zeroPage zp
  | .lsrZp zp => .zeroPage zp
  | .illSre47 zp => .zeroPage zp
  | .pha => .implicit
  | .eorImm imm => .immediate imm
  | .lsrAcc => .accumulator
  | .illAlr4B imm => .immediate imm
  | .jmpAbs addr => .absolute addr
  | .eorAbs addr => .absolute addr
  | .lsrAbs addr => .absolute addr
  | .illSre4F addr => .absolute addr
  | .bvc rel => .relative rel
  | .eorIzy zp => .indirectIndexedY zp
  | .illKil52 => .implicit
  | .illSre53 zp => .indirectIndexedY zp
  | .illNop54 zp => .zeroPageX zp
  | .eorZpx zp => .zeroPageX zp
  | .lsrZpx zp => .zeroPageX zp
  | .illSre57 zp => .zeroPageX zp
  | .cli => .implicit
  | .eorAby base => .absoluteY base
  | .illNop5A => .implicit
  | .illSre5B base => .absoluteY base
  | .illNop5C base => .absoluteX base
  | .eorAbx base => .absoluteX base
  | .lsrAbx base => .absoluteX base
  | .illSre5F base => .absoluteX base
  | .rts => .implicit
  | .adcIzx zp => .indexedIndirectX zp
  | .illKil62 => .implicit
  | .illRra63 zp => .indexedIndirectX zp
  | .illNop64 zp => .zeroPage zp
  | .adcZp zp => .zeroPage zp
  | .rorZp zp => .zeroPage zp
  | .illRra67 zp => .zeroPage zp
  | .pla => .implicit
  | .adcImm imm => .immediate imm
  | .rorAcc => .accumulator
  | .illArr6B imm => .immediate imm
  | .jmpInd ptr => .indirect ptr
  | .adcAbs addr => .absolute addr
  | .rorAbs addr => .absolute addr
  | .illRra6F addr => .absolute addr
  | .bvs rel => .relative rel
  | .adcIzy zp => .indirectIndexedY zp
  | .illKil72 => .implicit
  | .illRra73 zp => .indirectIndexedY zp
  | .illNop74 zp => .zeroPageX zp
  | .adcZpx zp => .zeroPageX zp
  | .rorZpx zp => .zeroPageX zp
  | .illRra77 zp => .zeroPageX zp
  | .sei => .implicit
  | .adcAby base => .absoluteY base
  | .illNop7A => .implicit
  | .illRra7B base => .absoluteY base
  | .illNop7C base => .absoluteX base
  | .adcAbx base => .absoluteX base
  | .rorAbx base => .absoluteX base
  | .illRra7F base => .absoluteX base
  | .illNop80 imm => .immediate imm
  | .staIzx zp => .indexedIndirectX zp
  | .illNop82 imm => .immediate imm
  | .illSax83 zp => .indexedIndirectX zp
  | .styZp zp => .zeroPage zp
  | .staZp zp => .zeroPage zp
  | .stxZp zp => .zeroPage zp
  | .illSax87 zp => .zeroPage zp
  | .dey => .implicit
  | .illNop89 imm => .immediate imm
  | .txa => .implicit
  | .illAne8B imm => .immediate imm
  | .styAbs addr => .absolute addr
  | .staAbs addr => .absolute addr
  | .stxAbs addr => .absolute addr
  | .illSax8F addr => .absolute addr
  | .bcc rel => .relative rel
  | .staIzy zp => .indirectIndexedY zp
  | .illKil92 => .implicit
  | .illSha93 zp => .indirectIndexedY zp
  | .styZpx zp => .zeroPageX zp
  | .staZpx zp => .zeroPageX zp
  | .stxZpy zp => .zeroPageY zp
  | .illSax97 zp => .zeroPageY zp
  | .tya => .implicit
  | .staAby base => .absoluteY base
  | .txs => .implicit
  | .illTas9B base => .absoluteY base
  | .illShy9C base => .absoluteX base
  | .staAbx base => .absoluteX base
  | .illShx9E base => .absoluteY base
  | .illSha9F base => .absoluteY base
  | .ldyImm imm => .immediate imm
  | .ldaIzx zp => .indexedIndirectX zp
  | .ldxImm imm => .immediate imm
  | .illLaxA3 zp => .indexedIndirectX zp
  | .ldyZp zp => .zeroPage zp
  | .ldaZp zp => .zeroPage zp
  | .ldxZp zp => .zeroPage zp
  | .illLaxA7 zp => .zeroPage zp
  | .tay => .implicit
  | .ldaImm imm => .immediate imm
  | .tax => .implicit
  | .illLxaAB imm => .immediate imm
  | .ldyAbs addr => .absolute addr
  | .ldaAbs addr => .absolute addr
  | .ldxAbs addr => .absolute addr
  | .illLaxAF addr => .absolute addr
  | .bcs rel => .relative rel
  | .ldaIzy zp => .indirectIndexedY zp
  | .illKilB2 => .implicit
  | .illLaxB3 zp => .indirectIndexedY zp
  | .ldyZpx zp => .zeroPageX zp
  | .ldaZpx zp => .zeroPageX zp
  | .ldxZpy zp => .zeroPageY zp
  | .illLaxB7 zp => .zeroPageY zp
  | .clv => .implicit
  | .ldaAby base => .absoluteY base
  | .tsx => .implicit
  | .illLasBB base => .absoluteY base
  | .ldyAbx base => .absoluteX base
  | .ldaAbx base => .absoluteX base
  | .ldxAby base => .absoluteY base
  | .illLaxBF base => .absoluteY base
  | .cpyImm imm => .immediate imm
  | .cmpIzx zp => .indexedIndirectX zp
  | .illNopC2 imm => .immediate imm
  | .illDcpC3 zp => .indexedIndirectX zp
  | .cpyZp zp => .zeroPage zp
  | .cmpZp zp => .zeroPage zp
  | .decZp zp => .zeroPage zp
  | .illDcpC7 zp => .zeroPage zp
  | .iny => .implicit
  | .cmpImm imm => .immediate imm
  | .dex => .implicit
  | .illSbxCB imm => .immediate imm
  | .cpyAbs addr => .absolute addr
  | .cmpAbs addr => .absolute addr
  | .decAbs addr => .absolute addr
  | .illDcpCF addr => .absolute addr
  | .bne rel => .relative rel
  | .cmpIzy zp => .indirectIndexedY zp
  | .illKilD2 => .implicit
  | .illDcpD3 zp => .indirectIndexedY zp
  | .illNopD4 zp => .zeroPageX zp
  | .cmpZpx zp => .zeroPageX zp
  | .decZpx zp => .zeroPageX zp
  | .illDcpD7 zp => .zeroPageX zp
  | .cld => .implicit
  | .cmpAby base => .absoluteY base
  | .illNopDA => .implicit
  | .illDcpDB base => .absoluteY base
  | .illNopDC base => .absoluteX base
  | .cmpAbx base => .absoluteX base
  | .decAbx base => .absoluteX base
  | .illDcpDF base => .absoluteX base
  | .cpxImm imm => .immediate imm
  | .sbcIzx zp => .indexedIndirectX zp
  | .illNopE2 imm => .immediate imm
  | .illIscE3 zp => .indexedIndirectX zp
  | .cpxZp zp => .zeroPage zp
  | .sbcZp zp => .zeroPage zp
  | .incZp zp => .zeroPage zp
  | .illIscE7 zp => .zeroPage zp
  | .inx => .implicit
  | .sbcImm imm => .immediate imm
  | .nop => .implicit
  | .illUsbcEB imm => .immediate imm
  | .cpxAbs addr => .absolute addr
  | .sbcAbs addr => .absolute addr
  | .incAbs addr => .absolute addr
  | .illIscEF addr => .absolute addr
  | .beq rel => .relative rel
  | .sbcIzy zp => .indirectIndexedY zp
  | .illKilF2 => .implicit
  | .illIscF3 zp => .indirectIndexedY zp
  | .illNopF4 zp => .zeroPageX zp
  | .sbcZpx zp => .zeroPageX zp
  | .incZpx zp => .zeroPageX zp
  | .illIscF7 zp => .zeroPageX zp
  | .sed => .implicit
  | .sbcAby base => .absoluteY base
  | .illNopFA => .implicit
  | .illIscFB base => .absoluteY base
  | .illNopFC base => .absoluteX base
  | .sbcAbx base => .absoluteX base
  | .incAbx base => .absoluteX base
  | .illIscFF base => .absoluteX base

/-- The bytes of an instruction after its opcode byte: its operand bytes, and for BRK the padding byte (R91). -/
def Instr.tail : Instr → List Byte
  | .brk pad => [pad]
  | i => operandBytes i.operand

/-! ### The encoder -/

/-- The bytes of an instruction (R90, R91). -/
def encode (i : Instr) : List Byte := i.opcode :: i.tail

/-! ### Words as the opcode table numbers them -/

/-- Byte `k` of an instruction whose bits, numbered as spec/opcode_table.json numbers them, are the low `nbits` of `w`. -/
def tableByte (nbits w k : Nat) : Byte := BitVec.ofNat 8 ((w % 2 ^ nbits) / 2 ^ (8 * k))

/-- The first three bytes, the longest instruction, of the table word `w`. -/
def tableBytes (nbits w : Nat) : List Byte := [tableByte nbits w 0, tableByte nbits w 1, tableByte nbits w 2]

/-- The instruction the decoder reads from the table word `w` of `nbits` bits. -/
def decodeTableWord (nbits w : Nat) : Option Instr :=
  match decode (tableBytes nbits w) with
  | .ok i _ => some i
  | .rejected _ => none

end Sys2Proof
end

