-- ==== Sys2Proof/Config.lean ====
section
/-! DEFINITION. The named parameters the spec leaves open (spec/00_scope.md R7): `Bus`, `OOPS_POLICY` and `ILLEGAL_CYCLES`. They
are arguments of the model. The step function of the host's interface takes a state and nothing else, so they travel in
`State.bus` and `State.params` (notes/assumptions/1.md, 2.md), a claim about every state is a claim about every bus and every
parameter value, and `stepWith` takes them as arguments. The spec leaves no value of a computation open but the bus's answers,
which are part of the state, so there is no free value here. -/

namespace Sys2Proof

/-- `OOPS_POLICY` of R7: which rows are charged the page-cross cycle (R295). -/
inductive OopsPolicy where
  | readClass
  | anyIndexed
  deriving DecidableEq, Repr

/-- The parameters of R7. `illegalCycles` is `ILLEGAL_CYCLES` as plain data: an illegal opcode byte listed there costs the
number beside it (the first such entry), an illegal byte not listed costs the default of R274, its row's base cycles. Every
function from the 105 illegal bytes to the naturals is such a list. -/
structure Params where
  oopsPolicy : OopsPolicy
  illegalCycles : List (Byte × Nat)
  deriving DecidableEq, Repr

/-- The defaults of R7: `ReadClass`, and every illegal row at its own `base_cycles`. -/
def Params.defaults : Params :=
  { oopsPolicy := .readClass, illegalCycles := [] }

/-- The oracle `Bus` of R7 as plain data (D11): what the bus does at each coming event. The `k`-th coming read is answered with the
byte that `answers` lists at `k`, whatever its address ("the model records the event (address, order) and takes the byte as a free
input", R61). Where nothing is listed, the RAM bus of R75 answers. The `k`-th coming write is ignored or taken by a device where
`ignored` lists `true` at `k`, and stored in the RAM otherwise (R62). A side effect of a read inside the bus reaches the core only
through later answers (R61), which are as free. -/
structure Bus where
  answers : List (Option Byte)
  ignored : List Bool
  deriving DecidableEq, Repr

/-- The default `Bus` of R7, the RAM bus of R75. -/
def Bus.ram : Bus := { answers := [], ignored := [] }

end Sys2Proof
end

