-- ==== Sys2Proof/Machine/State.lean ====
section
/-! DEFINITION. The state of the core (spec/10_state.md), the reasons a step can stop, and the state after reset. -/

namespace Sys2Proof.Machine

/-- The status register `P` (R27): "eight independent boolean flags". Bit 0 is `c`, 1 `z`, 2 `i`, 3 `d`, 4 `b`, 5 `u`, 6 `v`,
7 `n`. -/
structure Flags where
  /-- Carry (R28). -/
  c : Bool
  /-- Zero (R29). -/
  z : Bool
  /-- InterruptDisable (R30). -/
  i : Bool
  /-- Decimal, stored and without effect on any computation (R31). -/
  d : Bool
  /-- Break (R32). -/
  b : Bool
  /-- Unused (R33). -/
  u : Bool
  /-- Overflow (R34). -/
  v : Bool
  /-- Negative (R35). -/
  n : Bool
  deriving DecidableEq, Repr

/-- The flat 64 KiB of the RAM bus (R75): the bytes that are not 0x00, in rising order of address. -/
abbrev Memory := List Host.Cell

/-- One event on the bus interface (R61, R62): a one-byte read with the byte the bus answered, or a one-byte write. -/
inductive BusEvent where
  | read (addr : Word) (value : Byte)
  | write (addr : Word) (value : Byte)
  deriving DecidableEq, Repr

/-- The state. The first twelve fields are the spec's own (R20 to R46); `mem` is the memory behind the bus (R60, R75) and `bus` the
oracle of R7; of the model's own fields `stepCycles` is the value `Step()` returns (R298) and `busLog` the bus events of the latest
step or reset, oldest first (R61, R73); `params` holds the other arguments of R7. -/
structure State where
  /-- Accumulator (R21). -/
  a : Byte
  /-- Index register X (R22). -/
  x : Byte
  /-- Index register Y (R23). -/
  y : Byte
  /-- Stack pointer S (R24). -/
  sp : Byte
  /-- Program counter (R25). -/
  pc : Word
  /-- Status register (R27). -/
  p : Flags
  /-- The branch-taken penalty flag (R41). -/
  pendingBranchCycle : Bool
  /-- The page-cross penalty flag (R42). -/
  pendingOopsCycle : Bool
  /-- The NMI request latch (R43). -/
  pendingNMI : Bool
  /-- The IRQ request latch (R44). -/
  pendingIRQ : Bool
  /-- The DMA stall that the next step consumes (R45). -/
  dmaCycles : Nat
  /-- The running cycle counter (R46). -/
  cycleCount : Nat
  /-- The memory behind the bus (R60, R75). -/
  mem : Memory
  /-- The bus: what it does at the coming events (R7, R61, R62). -/
  bus : Bus
  /-- The cycle total that the latest step returned (R298). -/
  stepCycles : Nat
  /-- The bus events of the latest step or reset, oldest first (R61, R73). -/
  busLog : List BusEvent
  /-- The parameters of the machine (R7). -/
  params : Params
  deriving DecidableEq, Repr

/-- The faults of the core: none. "There is no synchronous exception other than BRK" (R320), and BRK is a next state; "no
instruction raises a synchronous exception, traps, faults or halts" (R150). A type without constructors says so once for every
step. -/
inductive Fault where
  deriving DecidableEq, Repr

/-- The refusals of the core. -/
inductive Refusal where
  /-- The instruction with this mnemonic has no meaning in the model yet. Raised by an arm of `exec` alone, and by none: every
  instruction has its meaning. Safe: the model stops where the hardware goes on. -/
  | notModelled (mnemonic : String)
  deriving DecidableEq, Repr

/-- What running one instruction, or one step, answers. -/
abbrev Result := Host.Outcome State Fault Refusal

/-- The state after reset (R50, R360) on a bus whose memory lists nothing: the registers at their reset values, the program
counter loaded from the reset vector, which reads 0x00 at 0xFFFC and at 0xFFFD (notes/assumptions/3.md, 4.md), and the two
reads of the vector as the bus events of the reset. -/
def State.reset : State :=
  { a := 0x00#8
    x := 0x00#8
    y := 0x00#8
    sp := 0xFD#8
    pc := 0x0000#16
    p := { c := false, z := false, i := false, d := false, b := false, u := true, v := false, n := false }
    pendingBranchCycle := false
    pendingOopsCycle := false
    pendingNMI := false
    pendingIRQ := false
    dmaCycles := 0
    cycleCount := 0
    mem := []
    bus := Bus.ram
    stepCycles := 0
    busLog := [.read 0xFFFC#16 0x00#8, .read 0xFFFD#16 0x00#8]
    params := Params.defaults }

end Sys2Proof.Machine
end

