-- ==== Sys2Proof/Machine/Flags.lean ====
section
/-! DEFINITION. Every computation of flags and of 8-bit results: packing and unpacking the status register (R36, R37), SetZN
(R40), the compare (R179), the test of BIT (R184), the shared adder (R220) and the shifts and rotates (R154 to R157). -/

namespace Sys2Proof.Machine

/-- The byte with the bit `b` at position `k` and zeros elsewhere. -/
def bitAt (b : Bool) (k : Nat) : Byte := (BitVec.ofBool b).setWidth 8 <<< k

/-- `PackP(b)` of R36: the status byte that a push writes, with `b` in the Break position and 1 in the Unused position. -/
def packP (b : Bool) (p : Flags) : Byte :=
  bitAt p.n 7 ||| bitAt p.v 6 ||| bitAt true 5 ||| bitAt b 4 ||| bitAt p.d 3 ||| bitAt p.i 2 ||| bitAt p.z 1 ||| bitAt p.c 0

/-- `UnpackP(v)` of R37: the flags that PLP and RTI restore from a pulled byte. -/
def unpackP (v : Byte) : Flags :=
  { c := v.getLsbD 0, z := v.getLsbD 1, i := v.getLsbD 2, d := v.getLsbD 3, b := false, u := true, v := v.getLsbD 6,
    n := v.getLsbD 7 }

/-- `P` as a byte in the layout of R27, the stored Break and Unused included. -/
def flagsByte (p : Flags) : Byte :=
  bitAt p.n 7 ||| bitAt p.v 6 ||| bitAt p.u 5 ||| bitAt p.b 4 ||| bitAt p.d 3 ||| bitAt p.i 2 ||| bitAt p.z 1 ||| bitAt p.c 0

/-- `SetZN(v)` of R40. -/
def setZN (v : Byte) (p : Flags) : Flags := { p with z := v == 0#8, n := v.getLsbD 7 }

/-- `Compare(r, m)` of R179; the carry is the unsigned comparison. -/
def compareFlags (r m : Byte) (p : Flags) : Flags := setZN (r - m) { p with c := decide (m ≤ r) }

/-- The flags of BIT (R184). -/
def bitTestFlags (a m : Byte) (p : Flags) : Flags :=
  { p with v := m.getLsbD 6, n := m.getLsbD 7, z := (m &&& a) == 0#8 }

/-- The 9-bit intermediate sum of R220. -/
def adderSum (a m : Byte) (c : Bool) : Nat := a.toNat + m.toNat + c.toNat

/-- The low byte of the intermediate sum (R220). -/
def adderByte (a m : Byte) (c : Bool) : Byte := BitVec.ofNat 8 (adderSum a m c)

/-- The sign-mismatch test of R220, on the accumulator before the addition and the adder's operand. -/
def adderOverflow (a m : Byte) (c : Bool) : Bool :=
  (~~~(a ^^^ m) &&& (a ^^^ adderByte a m c) &&& 0x80#8) != 0#8

/-- The flags that `AddWithCarry(m)` leaves (R220). -/
def adderFlags (a m : Byte) (p : Flags) : Flags :=
  setZN (adderByte a m p.c) { p with c := decide (0xFF < adderSum a m p.c), v := adderOverflow a m p.c }

/-- A shift or rotate: its result and the bit shifted out. -/
structure Shifted where
  result : Byte
  carry : Bool
  deriving DecidableEq, Repr

/-- ASL (R154). -/
def shiftLeft (v : Byte) : Shifted := { result := v <<< 1, carry := v.getLsbD 7 }

/-- LSR (R155). -/
def shiftRight (v : Byte) : Shifted := { result := v >>> 1, carry := v.getLsbD 0 }

/-- ROL (R156), with the incoming carry in bit 0. -/
def rotateLeft (c : Bool) (v : Byte) : Shifted := { result := v <<< 1 ||| bitAt c 0, carry := v.getLsbD 7 }

/-- ROR (R157), with the incoming carry in bit 7. -/
def rotateRight (c : Bool) (v : Byte) : Shifted := { result := v >>> 1 ||| bitAt c 7, carry := v.getLsbD 0 }

/-- The flags a shift or rotate leaves: the bit shifted out in C, Z and N from the result (R154 to R157). -/
def shiftedFlags (r : Shifted) (p : Flags) : Flags := setZN r.result { p with c := r.carry }

end Sys2Proof.Machine
end

