-- ==== Sys2Proof/Machine/Ops.lean ====
section
/-! DEFINITION. The named operations over registers, memory and the bus: the memory of the RAM bus (R75), the oracle (R7, D11),
the bus primitives and the multi-byte reads (R61 to R68), the stack (R69, R70), entering an interrupt sequence and returning
from one (R203, R270, R327), and reset (R360). -/

namespace Sys2Proof.Machine

/-! ### Register updates -/

/-- `A <- v`. -/
def State.setA (v : Byte) (s : State) : State := { s with a := v }

/-- `X <- v`. -/
def State.setX (v : Byte) (s : State) : State := { s with x := v }

/-- `Y <- v`. -/
def State.setY (v : Byte) (s : State) : State := { s with y := v }

/-- `S <- v`. -/
def State.setS (v : Byte) (s : State) : State := { s with sp := v }

/-- `PC <- v`. -/
def State.setPC (v : Word) (s : State) : State := { s with pc := v }

/-- `P <- p`. -/
def State.setP (p : Flags) (s : State) : State := { s with p := p }

/-- `pendingBranchCycle <- b` (R41). -/
def State.setBranch (b : Bool) (s : State) : State := { s with pendingBranchCycle := b }

/-- `pendingOopsCycle <- b` (R42). -/
def State.setOops (b : Bool) (s : State) : State := { s with pendingOopsCycle := b }

/-- `pendingNMI <- b` (R43). -/
def State.setNMI (b : Bool) (s : State) : State := { s with pendingNMI := b }

/-- `pendingIRQ <- b` (R44). -/
def State.setIRQ (b : Bool) (s : State) : State := { s with pendingIRQ := b }

/-- `dmaCycles <- n` (R45). -/
def State.setDma (n : Nat) (s : State) : State := { s with dmaCycles := n }

/-- `cycleCount <- n` (R46). -/
def State.setCycleCount (n : Nat) (s : State) : State := { s with cycleCount := n }

/-- The memory behind the bus. -/
def State.setMem (m : Memory) (s : State) : State := { s with mem := m }

/-- The bus. -/
def State.setBus (b : Bus) (s : State) : State := { s with bus := b }

/-- The step's running cycle total, the local variable `cycles` of R290. -/
def State.setStepCycles (n : Nat) (s : State) : State := { s with stepCycles := n }

/-- The bus events of the step. -/
def State.setBusLog (l : List BusEvent) (s : State) : State := { s with busLog := l }

/-- One more bus event. -/
def State.logEvent (e : BusEvent) (s : State) : State := s.setBusLog (s.busLog ++ [e])

/-! ### Memory: the RAM bus of R75 in canonical form -/

/-- The byte at a cell key: the listed one, and 0x00 where none is listed (notes/assumptions/3.md). -/
def readCell : Memory → Nat → Byte
  | [], _ => 0#8
  | c :: m, k => if c.1 = k then c.2 else readCell m k

/-- The list without any cell at `k`. -/
def eraseCell : Memory → Nat → Memory
  | [], _ => []
  | c :: m, k => if c.1 = k then eraseCell m k else c :: eraseCell m k

/-- The list with the cell `(k, v)` in its place. -/
def insertCell : Memory → Nat → Byte → Memory
  | [], k, v => [(k, v)]
  | c :: m, k, v => if k < c.1 then (k, v) :: c :: m else if c.1 = k then (k, v) :: m else c :: insertCell m k v

/-- `mem[a]` of R75. -/
def Memory.read (m : Memory) (a : Word) : Byte := readCell m a.toNat

/-- `mem[a] <- v` of R75, keeping the canonical form: writing 0x00 removes the cell. -/
def Memory.write (m : Memory) (a : Word) (v : Byte) : Memory :=
  if v = 0#8 then eraseCell m a.toNat else insertCell m a.toNat v

/-- Every key is at least `lo`, the keys rise strictly, each is a 16-bit address (R60), and no listed byte is 0x00. -/
def cellsFrom : Nat → Memory → Bool
  | _, [] => true
  | lo, c :: m => decide (lo ≤ c.1) && decide (c.1 < 65536) && decide (c.2 ≠ 0#8) && cellsFrom (c.1 + 1) m

/-- The canonical form of memory. -/
def Memory.wf (m : Memory) : Bool := cellsFrom 0 m

/-! ### Address forms -/

/-- `zext_16` of R9. -/
def zext16 (v : Byte) : Word := v.setWidth 16

/-- `sext_16` of R9. -/
def sext16 (v : Byte) : Word := v.signExtend 16

/-- `crossed(a, b)` of R121: the two addresses lie in different pages. -/
def crossed (a b : Word) : Bool := highByte a != highByte b

/-- The stack byte that the stack pointer value `sp` addresses (R24). -/
def stackAddr (sp : Byte) : Word := 0x0100#16 + zext16 sp

/-- The NMI vector (R72, R328). -/
def nmiVector : Word := 0xFFFA#16

/-- The reset vector (R72, R328). -/
def resetVector : Word := 0xFFFC#16

/-- The IRQ and BRK vector (R72, R328). -/
def irqVector : Word := 0xFFFE#16

/-! ### The oracle -/

/-- What the bus answers the `k`-th coming read, where the RAM has the byte `ram` (R61, D11). -/
def answerAt (b : Bus) (k : Nat) (ram : Byte) : Byte := (b.answers.getD k none).getD ram

/-- The `k`-th coming write does not reach the RAM (R62). -/
def ignoredAt (b : Bus) (k : Nat) : Bool := b.ignored.getD k false

/-- The memory after a bus write of `v` at `a` that the RAM takes unless `ignored` (R62, R75). -/
def storeByte (ignored : Bool) (m : Memory) (a : Word) (v : Byte) : Memory := if ignored then m else m.write a v

/-- The bus after `r` reads and `w` writes. -/
def spend (r w : Nat) (b : Bus) : Bus := { answers := b.answers.drop r, ignored := b.ignored.drop w }

/-- What the bus answers the `k`-th coming read when that read is of `addr`. -/
def State.peek (k : Nat) (addr : Word) (s : State) : Byte := answerAt s.bus k (s.mem.read addr)

/-! ### Bus primitives -/

/-- One read event at `addr` that the bus answers with `v`. -/
def completeRead (addr : Word) (v : Byte) (s : State) : State := (s.setBus (spend 1 0 s.bus)).logEvent (.read addr v)

/-- `MemRead(addr, 1)` (R61): one read event and the byte the bus answers. -/
def memRead (addr : Word) (s : State) : Byte × State := (s.peek 0 addr, completeRead addr (s.peek 0 addr) s)

/-- `MemWrite(addr, 1, v)` (R62): one write event; the RAM takes the byte unless the bus ignores the write or gives it to a
device. -/
def memWrite (addr : Word) (v : Byte) (s : State) : State :=
  ((s.setMem (storeByte (ignoredAt s.bus 0) s.mem addr v)).setBus (spend 0 1 s.bus)).logEvent (.write addr v)

/-- Two one-byte reads, the low byte first, assembled as `hi:lo` (R64, R65). -/
def readPair (lo hi : Word) (s : State) : Word × State :=
  let l := memRead lo s
  let h := memRead hi l.2
  (wordOfBytes h.1 l.1, h.2)

/-- `Read16(a)` (R66): the second address wraps at 0xFFFF. -/
def read16 (a : Word) (s : State) : Word × State := readPair a (a + 1#16) s

/-- `Read16ZP(z)` (R67): both bytes in page zero. -/
def read16ZP (z : Byte) (s : State) : Word × State := readPair (zext16 z) (zext16 (z + 1#8)) s

/-- The second address of `Read16Bug(p)` (R68): the next byte of the same page. -/
def pageWrapNext (p : Word) : Word := wordOfBytes (highByte p) (lowByte p + 1#8)

/-- `Read16Bug(p)` (R68). -/
def read16Bug (p : Word) (s : State) : Word × State := readPair p (pageWrapNext p) s

/-! ### The stack -/

/-- `Push(v)` (R69): write, then decrement. -/
def push (v : Byte) (s : State) : State := (memWrite (stackAddr s.sp) v s).setS (s.sp - 1#8)

/-- `Pull()` (R70): increment, then read. -/
def pull (s : State) : Byte × State := memRead (stackAddr (s.sp + 1#8)) (s.setS (s.sp + 1#8))

/-- The two pushes of a 16-bit value, high byte first (R64, R201, R327). -/
def pushWord (w : Word) (s : State) : State := push (lowByte w) (push (highByte w) s)

/-- The two pulls of a 16-bit value, low byte first (R202, R203). -/
def pullWord (s : State) : Word × State :=
  let l := pull s
  let h := pull l.2
  (wordOfBytes h.1 l.1, h.2)

/-! ### Taking an exception, returning from one, and reset -/

/-- Entering an interrupt sequence through the vector `v` (R327; R270 from its first push on): the program counter and the
status byte are pushed, the latter with `brk` in the Break position and with I as it was, then I is set and the program counter
loaded from the vector. NMI and IRQ entry is this with `brk` false. -/
def takeInterrupt (v : Word) (brk : Bool) (s : State) : State :=
  let s1 := push (packP brk s.p) (pushWord s.pc s)
  let s2 := s1.setP { s1.p with i := true }
  let t := read16 v s2
  t.2.setPC t.1

/-- Returning from an interrupt (R203, R333): the status, then the program counter, with no increment. -/
def returnFromInterrupt (s : State) : State :=
  let v := pull s
  let t := pullWord (v.2.setP (unpackP v.1))
  t.2.setPC t.1

/-- The registers, flags, latches and counters at their power-on values (R360, R361), with the memory, the bus and the
parameters of `s`. The program counter is still to be loaded. -/
def powerOnPosture (s : State) : State :=
  { State.reset with mem := s.mem, bus := s.bus, params := s.params, pc := s.pc, busLog := [] }

/-- `Reset()` (R360): the power-on posture, then the program counter from the reset vector. -/
def resetOp (s : State) : State :=
  let t := read16 resetVector (powerOnPosture s)
  t.2.setPC t.1

end Sys2Proof.Machine
end

