-- ==== Sys2Proof/Machine/Operands.lean ====
section
/-! DEFINITION. The thirteen addressing-mode resolvers of spec/40_addressing_modes.md and the operand access helpers. A resolver
starts with the program counter at the opcode byte. The operand bytes are those the instruction was decoded from, so a resolver
makes the bus read of each of them and takes its value from the instruction; pointer bytes are read from the bus. -/

namespace Sys2Proof.Machine

/-- What a resolver answers (R120): no address, for Implicit and Accumulator; for Immediate the address of the operand byte,
with the byte; for every other mode an address. -/
inductive Place where
  | noAddress
  | literal (addr : Word) (value : Byte)
  | memory (addr : Word)
  deriving DecidableEq, Repr

/-- `PC <- u16(o + n)` (R26, R120). -/
def advance (n : Word) (s : State) : State := s.setPC (s.pc + n)

/-- The read of the one operand byte at `o + 1` (R91, R120). -/
def readOperandByte (v : Byte) (s : State) : State := completeRead (s.pc + 1#16) v s

/-- The reads of the two operand bytes at `o + 1` and `o + 2`, low byte first (R66, R91, R120). -/
def readOperandWord (w : Word) (s : State) : State :=
  completeRead (s.pc + 2#16) (highByte w) (completeRead (s.pc + 1#16) (lowByte w) s)

/-- Set the page-cross flag when the two addresses lie in different pages; never clear it (R121). -/
def markCross (a b : Word) (s : State) : State := s.setOops (s.pendingOopsCycle || crossed a b)

/-- R122. -/
def resolveImplicit (s : State) : State := advance 1#16 s

/-- R123. -/
def resolveAccumulator (s : State) : State := advance 1#16 s

/-- R124: the address of the operand byte; no bus access. -/
def resolveImmediate (s : State) : Word × State := (s.pc + 1#16, advance 2#16 s)

/-- R125: the target, measured from the next instruction, whose page the target's is compared with. -/
def resolveRelative (rel : Byte) (s : State) : Word × State :=
  let s1 := advance 2#16 (readOperandByte rel s)
  let target := s1.pc + sext16 rel
  (target, markCross target s1.pc s1)

/-- R126. -/
def resolveAbsolute (addr : Word) (s : State) : Word × State := (addr, advance 3#16 (readOperandWord addr s))

/-- R127. -/
def resolveZeroPage (zp : Byte) (s : State) : Word × State := (zext16 zp, advance 2#16 (readOperandByte zp s))

/-- R128, with the page-wrap bug of R68. -/
def resolveIndirect (ptr : Word) (s : State) : Word × State := read16Bug ptr (advance 3#16 (readOperandWord ptr s))

/-- R129 and R130: the base plus an index register. -/
def resolveAbsoluteIndexed (base : Word) (index : Byte) (s : State) : Word × State :=
  let ea := base + zext16 index
  (ea, markCross ea base (advance 3#16 (readOperandWord base s)))

/-- R131 and R132: the base plus an index register, inside page zero. -/
def resolveZeroPageIndexed (zp index : Byte) (s : State) : Word × State :=
  (zext16 (zp + index), advance 2#16 (readOperandByte zp s))

/-- R133: the pointer is at `u8(z + X)`, both its bytes in page zero. -/
def resolveIndexedIndirectX (zp : Byte) (s : State) : Word × State :=
  read16ZP (zp + s.x) (advance 2#16 (readOperandByte zp s))

/-- R134: the pointer, both its bytes in page zero, plus Y. -/
def resolveIndirectIndexedY (zp : Byte) (s : State) : Word × State :=
  let t := read16ZP zp (advance 2#16 (readOperandByte zp s))
  let ea := t.1 + zext16 s.y
  (ea, markCross ea t.1 t.2)

/-- An address and a state as what `resolve` answers. -/
def atAddress (t : Word × State) : Place × State := (.memory t.1, t.2)

/-- `Resolve(mode)` of R120 for every mode. -/
def resolve (op : Operand) (s : State) : Place × State :=
  match op with
  | .implicit => (.noAddress, resolveImplicit s)
  | .accumulator => (.noAddress, resolveAccumulator s)
  | .immediate imm => (.literal (resolveImmediate s).1 imm, (resolveImmediate s).2)
  | .relative rel => atAddress (resolveRelative rel s)
  | .absolute addr => atAddress (resolveAbsolute addr s)
  | .zeroPage zp => atAddress (resolveZeroPage zp s)
  | .indirect ptr => atAddress (resolveIndirect ptr s)
  | .absoluteX base => atAddress (resolveAbsoluteIndexed base s.x s)
  | .absoluteY base => atAddress (resolveAbsoluteIndexed base s.y s)
  | .zeroPageX zp => atAddress (resolveZeroPageIndexed zp s.x s)
  | .zeroPageY zp => atAddress (resolveZeroPageIndexed zp s.y s)
  | .indexedIndirectX zp => atAddress (resolveIndexedIndirectX zp s)
  | .indirectIndexedY zp => atAddress (resolveIndirectIndexedY zp s)

/-- `ReadOperand(mode, ea)` (R135, R137): the accumulator where there is no address, one bus read otherwise. The read of an
Immediate operand is the one read of that operand byte. -/
def readOperand (place : Place) (s : State) : Byte × State :=
  match place with
  | .noAddress => (s.a, s)
  | .literal addr v => (v, completeRead addr v s)
  | .memory addr => memRead addr s

/-- `WriteOperand(mode, ea, v)` (R136, R137): the accumulator where there is no address, one bus write otherwise. -/
def writeOperand (place : Place) (v : Byte) (s : State) : State :=
  match place with
  | .noAddress => s.setA v
  | .literal addr _ => memWrite addr v s
  | .memory addr => memWrite addr v s

/-- Resolve an operand and read it once: the first two lines of every handler that reads one. -/
def loadOperand (op : Operand) (s : State) : Byte × State := readOperand (resolve op s).1 (resolve op s).2

/-- Resolve an operand and write a value to it, without reading it (R226 to R228). -/
def storeOperand (op : Operand) (v : Byte) (s : State) : State := writeOperand (resolve op s).1 v (resolve op s).2

/-- Resolve an operand, read it once, and write back once what `f` makes of it, with the flags `g` makes (R73, R154 to R157,
R240, R241). Both see the state in which the operand has been read. -/
def modifyOperand (f : State → Byte → Byte) (g : State → Byte → Flags) (op : Operand) (s : State) : State :=
  let m := loadOperand op s
  (writeOperand (resolve op s).1 (f m.2 m.1) m.2).setP (g m.2 m.1)

end Sys2Proof.Machine
end

