-- ==== Sys2Proof/Machine/Arith.lean ====
section
/-! DEFINITION. ADC and SBC (R220 to R222). Decimal mode does not exist: the flag D is not read (R31, R220). -/

namespace Sys2Proof.Machine

/-- `AddWithCarry(m)` (R220). -/
def addWithCarry (m : Byte) (s : State) : State :=
  (s.setA (adderByte s.a m s.p.c)).setP (adderFlags s.a m s.p)

/-- ADC (R221). -/
def adc (op : Operand) (s : State) : State :=
  let m := loadOperand op s
  addWithCarry m.1 m.2

/-- 0x61 ADC, Indexed Indirect (X) (R221). -/
def execAdcIzx (zp : Byte) (s : State) : Result := .next (adc (.indexedIndirectX zp) s)

/-- 0x65 ADC, Zero Page (R221). -/
def execAdcZp (zp : Byte) (s : State) : Result := .next (adc (.zeroPage zp) s)

/-- 0x69 ADC, Immediate (R221). -/
def execAdcImm (imm : Byte) (s : State) : Result := .next (adc (.immediate imm) s)

/-- 0x6D ADC, Absolute (R221). -/
def execAdcAbs (addr : Word) (s : State) : Result := .next (adc (.absolute addr) s)

/-- 0x71 ADC, Indirect Indexed (Y) (R221). -/
def execAdcIzy (zp : Byte) (s : State) : Result := .next (adc (.indirectIndexedY zp) s)

/-- 0x75 ADC, Zero Page,X (R221). -/
def execAdcZpx (zp : Byte) (s : State) : Result := .next (adc (.zeroPageX zp) s)

/-- 0x79 ADC, Absolute,Y (R221). -/
def execAdcAby (base : Word) (s : State) : Result := .next (adc (.absoluteY base) s)

/-- 0x7D ADC, Absolute,X (R221). -/
def execAdcAbx (base : Word) (s : State) : Result := .next (adc (.absoluteX base) s)

/-- SBC (R222): the adder takes the complement of the operand. -/
def sbc (op : Operand) (s : State) : State :=
  let m := loadOperand op s
  addWithCarry (~~~m.1) m.2

/-- 0xE1 SBC, Indexed Indirect (X) (R222). -/
def execSbcIzx (zp : Byte) (s : State) : Result := .next (sbc (.indexedIndirectX zp) s)

/-- 0xE5 SBC, Zero Page (R222). -/
def execSbcZp (zp : Byte) (s : State) : Result := .next (sbc (.zeroPage zp) s)

/-- 0xE9 SBC, Immediate (R222). -/
def execSbcImm (imm : Byte) (s : State) : Result := .next (sbc (.immediate imm) s)

/-- 0xED SBC, Absolute (R222). -/
def execSbcAbs (addr : Word) (s : State) : Result := .next (sbc (.absolute addr) s)

/-- 0xF1 SBC, Indirect Indexed (Y) (R222). -/
def execSbcIzy (zp : Byte) (s : State) : Result := .next (sbc (.indirectIndexedY zp) s)

/-- 0xF5 SBC, Zero Page,X (R222). -/
def execSbcZpx (zp : Byte) (s : State) : Result := .next (sbc (.zeroPageX zp) s)

/-- 0xF9 SBC, Absolute,Y (R222). -/
def execSbcAby (base : Word) (s : State) : Result := .next (sbc (.absoluteY base) s)

/-- 0xFD SBC, Absolute,X (R222). -/
def execSbcAbx (base : Word) (s : State) : Result := .next (sbc (.absoluteX base) s)

end Sys2Proof.Machine
end

