-- ==== Sys2Proof/Machine/Branch.lean ====
section
/-! DEFINITION. The eight conditional branches (R170 to R178). -/

namespace Sys2Proof.Machine

/-- The common branch (R170): the resolver runs whether or not the branch is taken; a taken branch goes to the target and marks the
branch-taken cycle. -/
def branch (cond : Bool) (rel : Byte) (s : State) : State :=
  let t := resolveRelative rel s
  if cond then (t.2.setPC t.1).setBranch true else t.2

/-- 0x10 BPL, Relative (R171). -/
def execBpl (rel : Byte) (s : State) : Result := .next (branch (!s.p.n) rel s)

/-- 0x30 BMI, Relative (R172). -/
def execBmi (rel : Byte) (s : State) : Result := .next (branch s.p.n rel s)

/-- 0x50 BVC, Relative (R173). -/
def execBvc (rel : Byte) (s : State) : Result := .next (branch (!s.p.v) rel s)

/-- 0x70 BVS, Relative (R174). -/
def execBvs (rel : Byte) (s : State) : Result := .next (branch s.p.v rel s)

/-- 0x90 BCC, Relative (R175). -/
def execBcc (rel : Byte) (s : State) : Result := .next (branch (!s.p.c) rel s)

/-- 0xB0 BCS, Relative (R176). -/
def execBcs (rel : Byte) (s : State) : Result := .next (branch s.p.c rel s)

/-- 0xD0 BNE, Relative (R177). -/
def execBne (rel : Byte) (s : State) : Result := .next (branch (!s.p.z) rel s)

/-- 0xF0 BEQ, Relative (R178). -/
def execBeq (rel : Byte) (s : State) : Result := .next (branch s.p.z rel s)

end Sys2Proof.Machine
end

