-- ==== Sys2Proof/Machine/Compare.lean ====
section
/-! DEFINITION. The compares CMP, CPX and CPY, and BIT (R179 to R184). -/

namespace Sys2Proof.Machine

/-- Read the operand and compare the byte `r` of a register with it (R179). -/
def compareWith (r : Byte) (op : Operand) (s : State) : State :=
  let m := loadOperand op s
  m.2.setP (compareFlags r m.1 m.2.p)

/-- CMP (R180). -/
def cmp (op : Operand) (s : State) : State := compareWith s.a op s

/-- 0xC1 CMP, Indexed Indirect (X) (R180). -/
def execCmpIzx (zp : Byte) (s : State) : Result := .next (cmp (.indexedIndirectX zp) s)

/-- 0xC5 CMP, Zero Page (R180). -/
def execCmpZp (zp : Byte) (s : State) : Result := .next (cmp (.zeroPage zp) s)

/-- 0xC9 CMP, Immediate (R180). -/
def execCmpImm (imm : Byte) (s : State) : Result := .next (cmp (.immediate imm) s)

/-- 0xCD CMP, Absolute (R180). -/
def execCmpAbs (addr : Word) (s : State) : Result := .next (cmp (.absolute addr) s)

/-- 0xD1 CMP, Indirect Indexed (Y) (R180). -/
def execCmpIzy (zp : Byte) (s : State) : Result := .next (cmp (.indirectIndexedY zp) s)

/-- 0xD5 CMP, Zero Page,X (R180). -/
def execCmpZpx (zp : Byte) (s : State) : Result := .next (cmp (.zeroPageX zp) s)

/-- 0xD9 CMP, Absolute,Y (R180). -/
def execCmpAby (base : Word) (s : State) : Result := .next (cmp (.absoluteY base) s)

/-- 0xDD CMP, Absolute,X (R180). -/
def execCmpAbx (base : Word) (s : State) : Result := .next (cmp (.absoluteX base) s)

/-- CPX (R181). -/
def cpx (op : Operand) (s : State) : State := compareWith s.x op s

/-- 0xE0 CPX, Immediate (R181). -/
def execCpxImm (imm : Byte) (s : State) : Result := .next (cpx (.immediate imm) s)

/-- 0xE4 CPX, Zero Page (R181). -/
def execCpxZp (zp : Byte) (s : State) : Result := .next (cpx (.zeroPage zp) s)

/-- 0xEC CPX, Absolute (R181). -/
def execCpxAbs (addr : Word) (s : State) : Result := .next (cpx (.absolute addr) s)

/-- CPY (R182). -/
def cpy (op : Operand) (s : State) : State := compareWith s.y op s

/-- 0xC0 CPY, Immediate (R182). -/
def execCpyImm (imm : Byte) (s : State) : Result := .next (cpy (.immediate imm) s)

/-- 0xC4 CPY, Zero Page (R182). -/
def execCpyZp (zp : Byte) (s : State) : Result := .next (cpy (.zeroPage zp) s)

/-- 0xCC CPY, Absolute (R182). -/
def execCpyAbs (addr : Word) (s : State) : Result := .next (cpy (.absolute addr) s)

/-- BIT (R184). -/
def bitTest (op : Operand) (s : State) : State :=
  let m := loadOperand op s
  m.2.setP (bitTestFlags m.2.a m.1 m.2.p)

/-- 0x24 BIT, Zero Page (R184). -/
def execBitZp (zp : Byte) (s : State) : Result := .next (bitTest (.zeroPage zp) s)

/-- 0x2C BIT, Absolute (R184). -/
def execBitAbs (addr : Word) (s : State) : Result := .next (bitTest (.absolute addr) s)

end Sys2Proof.Machine
end

