-- ==== Sys2Proof/Machine/FlagOps.lean ====
section
/-! DEFINITION. The flag instructions CLC, CLD, CLI, CLV, SEC, SED and SEI (R186 to R192). -/

namespace Sys2Proof.Machine

/-- Resolve Implicit, then change the flags. -/
def changeFlags (f : Flags → Flags) (s : State) : State :=
  let t := resolveImplicit s
  t.setP (f t.p)

/-- 0x18 CLC, Implicit (R186). -/
def execClc (s : State) : Result := .next (changeFlags (fun p => { p with c := false }) s)

/-- 0xD8 CLD, Implicit (R187). -/
def execCld (s : State) : Result := .next (changeFlags (fun p => { p with d := false }) s)

/-- 0x58 CLI, Implicit (R188). -/
def execCli (s : State) : Result := .next (changeFlags (fun p => { p with i := false }) s)

/-- 0xB8 CLV, Implicit (R189). -/
def execClv (s : State) : Result := .next (changeFlags (fun p => { p with v := false }) s)

/-- 0x38 SEC, Implicit (R190). -/
def execSec (s : State) : Result := .next (changeFlags (fun p => { p with c := true }) s)

/-- 0xF8 SED, Implicit (R191). -/
def execSed (s : State) : Result := .next (changeFlags (fun p => { p with d := true }) s)

/-- 0x78 SEI, Implicit (R192). -/
def execSei (s : State) : Result := .next (changeFlags (fun p => { p with i := true }) s)

end Sys2Proof.Machine
end

