-- ==== Sys2Proof/Machine/IncDec.lean ====
section
/-! DEFINITION. INC and DEC on memory, INX, INY, DEX and DEY (R240 to R245). -/

namespace Sys2Proof.Machine

/-- INC (R240). -/
def inc (op : Operand) (s : State) : State :=
  modifyOperand (fun _ v => v + 1#8) (fun t v => setZN (v + 1#8) t.p) op s

/-- 0xE6 INC, Zero Page (R240). -/
def execIncZp (zp : Byte) (s : State) : Result := .next (inc (.zeroPage zp) s)

/-- 0xEE INC, Absolute (R240). -/
def execIncAbs (addr : Word) (s : State) : Result := .next (inc (.absolute addr) s)

/-- 0xF6 INC, Zero Page,X (R240). -/
def execIncZpx (zp : Byte) (s : State) : Result := .next (inc (.zeroPageX zp) s)

/-- 0xFE INC, Absolute,X (R240). -/
def execIncAbx (base : Word) (s : State) : Result := .next (inc (.absoluteX base) s)

/-- DEC (R241). -/
def dec (op : Operand) (s : State) : State :=
  modifyOperand (fun _ v => v - 1#8) (fun t v => setZN (v - 1#8) t.p) op s

/-- 0xC6 DEC, Zero Page (R241). -/
def execDecZp (zp : Byte) (s : State) : Result := .next (dec (.zeroPage zp) s)

/-- 0xCE DEC, Absolute (R241). -/
def execDecAbs (addr : Word) (s : State) : Result := .next (dec (.absolute addr) s)

/-- 0xD6 DEC, Zero Page,X (R241). -/
def execDecZpx (zp : Byte) (s : State) : Result := .next (dec (.zeroPageX zp) s)

/-- 0xDE DEC, Absolute,X (R241). -/
def execDecAbx (base : Word) (s : State) : Result := .next (dec (.absoluteX base) s)

/-- `X <- v` with Z and N from it, after the Implicit resolver (R242, R244, R246, R250). -/
def putX (v : Byte) (s : State) : State :=
  let t := resolveImplicit s
  (t.setX v).setP (setZN v t.p)

/-- `Y <- v` with Z and N from it, after the Implicit resolver (R243, R245, R247). -/
def putY (v : Byte) (s : State) : State :=
  let t := resolveImplicit s
  (t.setY v).setP (setZN v t.p)

/-- 0xE8 INX, Implicit (R242). -/
def execInx (s : State) : Result := .next (putX (s.x + 1#8) s)

/-- 0xC8 INY, Implicit (R243). -/
def execIny (s : State) : Result := .next (putY (s.y + 1#8) s)

/-- 0xCA DEX, Implicit (R244). -/
def execDex (s : State) : Result := .next (putX (s.x - 1#8) s)

/-- 0x88 DEY, Implicit (R245). -/
def execDey (s : State) : Result := .next (putY (s.y - 1#8) s)

end Sys2Proof.Machine
end

