-- ==== Sys2Proof/Machine/Jump.lean ====
section
/-! DEFINITION. JMP, JSR, RTS and RTI (R200 to R203). -/

namespace Sys2Proof.Machine

/-- JMP (R200) to what a resolver answers. -/
def jumpTo (t : Word × State) : State := t.2.setPC t.1

/-- 0x4C JMP, Absolute (R200). -/
def execJmpAbs (addr : Word) (s : State) : Result := .next (jumpTo (resolveAbsolute addr s))

/-- 0x6C JMP, Indirect (R200). -/
def execJmpInd (ptr : Word) (s : State) : Result := .next (jumpTo (resolveIndirect ptr s))

/-- JSR (R201): the operand is read before either push; the pushed address is that of the instruction's last byte. -/
def jsr (addr : Word) (s : State) : State :=
  let t := resolveAbsolute addr s
  (pushWord (t.2.pc - 1#16) t.2).setPC t.1

/-- 0x20 JSR, Absolute (R201). -/
def execJsr (addr : Word) (s : State) : Result := .next (jsr addr s)

/-- RTS (R202). -/
def rts (s : State) : State :=
  let t := pullWord (resolveImplicit s)
  t.2.setPC (t.1 + 1#16)

/-- 0x60 RTS, Implicit (R202). -/
def execRts (s : State) : Result := .next (rts s)

/-- RTI (R203). -/
def rti (s : State) : State := returnFromInterrupt (resolveImplicit s)

/-- 0x40 RTI, Implicit (R203). -/
def execRti (s : State) : Result := .next (rti s)

end Sys2Proof.Machine
end

