-- ==== Sys2Proof/Machine/LoadStore.lean ====
section
/-! DEFINITION. The loads LDA, LDX and LDY and the stores STA, STX and STY (R223 to R228). -/

namespace Sys2Proof.Machine

/-- LDA (R223). -/
def lda (op : Operand) (s : State) : State :=
  let m := loadOperand op s
  (m.2.setA m.1).setP (setZN m.1 m.2.p)

/-- 0xA1 LDA, Indexed Indirect (X) (R223). -/
def execLdaIzx (zp : Byte) (s : State) : Result := .next (lda (.indexedIndirectX zp) s)

/-- 0xA5 LDA, Zero Page (R223). -/
def execLdaZp (zp : Byte) (s : State) : Result := .next (lda (.zeroPage zp) s)

/-- 0xA9 LDA, Immediate (R223). -/
def execLdaImm (imm : Byte) (s : State) : Result := .next (lda (.immediate imm) s)

/-- 0xAD LDA, Absolute (R223). -/
def execLdaAbs (addr : Word) (s : State) : Result := .next (lda (.absolute addr) s)

/-- 0xB1 LDA, Indirect Indexed (Y) (R223). -/
def execLdaIzy (zp : Byte) (s : State) : Result := .next (lda (.indirectIndexedY zp) s)

/-- 0xB5 LDA, Zero Page,X (R223). -/
def execLdaZpx (zp : Byte) (s : State) : Result := .next (lda (.zeroPageX zp) s)

/-- 0xB9 LDA, Absolute,Y (R223). -/
def execLdaAby (base : Word) (s : State) : Result := .next (lda (.absoluteY base) s)

/-- 0xBD LDA, Absolute,X (R223). -/
def execLdaAbx (base : Word) (s : State) : Result := .next (lda (.absoluteX base) s)

/-- LDX (R224). -/
def ldx (op : Operand) (s : State) : State :=
  let m := loadOperand op s
  (m.2.setX m.1).setP (setZN m.1 m.2.p)

/-- 0xA2 LDX, Immediate (R224). -/
def execLdxImm (imm : Byte) (s : State) : Result := .next (ldx (.immediate imm) s)

/-- 0xA6 LDX, Zero Page (R224). -/
def execLdxZp (zp : Byte) (s : State) : Result := .next (ldx (.zeroPage zp) s)

/-- 0xAE LDX, Absolute (R224). -/
def execLdxAbs (addr : Word) (s : State) : Result := .next (ldx (.absolute addr) s)

/-- 0xB6 LDX, Zero Page,Y (R224). -/
def execLdxZpy (zp : Byte) (s : State) : Result := .next (ldx (.zeroPageY zp) s)

/-- 0xBE LDX, Absolute,Y (R224). -/
def execLdxAby (base : Word) (s : State) : Result := .next (ldx (.absoluteY base) s)

/-- LDY (R225). -/
def ldy (op : Operand) (s : State) : State :=
  let m := loadOperand op s
  (m.2.setY m.1).setP (setZN m.1 m.2.p)

/-- 0xA0 LDY, Immediate (R225). -/
def execLdyImm (imm : Byte) (s : State) : Result := .next (ldy (.immediate imm) s)

/-- 0xA4 LDY, Zero Page (R225). -/
def execLdyZp (zp : Byte) (s : State) : Result := .next (ldy (.zeroPage zp) s)

/-- 0xAC LDY, Absolute (R225). -/
def execLdyAbs (addr : Word) (s : State) : Result := .next (ldy (.absolute addr) s)

/-- 0xB4 LDY, Zero Page,X (R225). -/
def execLdyZpx (zp : Byte) (s : State) : Result := .next (ldy (.zeroPageX zp) s)

/-- 0xBC LDY, Absolute,X (R225). -/
def execLdyAbx (base : Word) (s : State) : Result := .next (ldy (.absoluteX base) s)

/-- STA (R226). -/
def sta (op : Operand) (s : State) : State := storeOperand op s.a s

/-- 0x81 STA, Indexed Indirect (X) (R226). -/
def execStaIzx (zp : Byte) (s : State) : Result := .next (sta (.indexedIndirectX zp) s)

/-- 0x85 STA, Zero Page (R226). -/
def execStaZp (zp : Byte) (s : State) : Result := .next (sta (.zeroPage zp) s)

/-- 0x8D STA, Absolute (R226). -/
def execStaAbs (addr : Word) (s : State) : Result := .next (sta (.absolute addr) s)

/-- 0x91 STA, Indirect Indexed (Y) (R226). -/
def execStaIzy (zp : Byte) (s : State) : Result := .next (sta (.indirectIndexedY zp) s)

/-- 0x95 STA, Zero Page,X (R226). -/
def execStaZpx (zp : Byte) (s : State) : Result := .next (sta (.zeroPageX zp) s)

/-- 0x99 STA, Absolute,Y (R226). -/
def execStaAby (base : Word) (s : State) : Result := .next (sta (.absoluteY base) s)

/-- 0x9D STA, Absolute,X (R226). -/
def execStaAbx (base : Word) (s : State) : Result := .next (sta (.absoluteX base) s)

/-- STX (R227). -/
def stx (op : Operand) (s : State) : State := storeOperand op s.x s

/-- 0x86 STX, Zero Page (R227). -/
def execStxZp (zp : Byte) (s : State) : Result := .next (stx (.zeroPage zp) s)

/-- 0x8E STX, Absolute (R227). -/
def execStxAbs (addr : Word) (s : State) : Result := .next (stx (.absolute addr) s)

/-- 0x96 STX, Zero Page,Y (R227). -/
def execStxZpy (zp : Byte) (s : State) : Result := .next (stx (.zeroPageY zp) s)

/-- STY (R228). -/
def sty (op : Operand) (s : State) : State := storeOperand op s.y s

/-- 0x84 STY, Zero Page (R228). -/
def execStyZp (zp : Byte) (s : State) : Result := .next (sty (.zeroPage zp) s)

/-- 0x8C STY, Absolute (R228). -/
def execStyAbs (addr : Word) (s : State) : Result := .next (sty (.absolute addr) s)

/-- 0x94 STY, Zero Page,X (R228). -/
def execStyZpx (zp : Byte) (s : State) : Result := .next (sty (.zeroPageX zp) s)

end Sys2Proof.Machine
end

