-- ==== Sys2Proof/Machine/Logic.lean ====
section
/-! DEFINITION. The bitwise instructions AND, ORA and EOR (R151 to R153). -/

namespace Sys2Proof.Machine

/-- Read the operand, combine it with the accumulator, set Z and N from the new accumulator. -/
def combineA (f : Byte → Byte → Byte) (op : Operand) (s : State) : State :=
  let m := loadOperand op s
  let r := f m.2.a m.1
  (m.2.setA r).setP (setZN r m.2.p)

/-- AND (R151). -/
def andA (op : Operand) (s : State) : State := combineA (fun a m => a &&& m) op s

/-- 0x21 AND, Indexed Indirect (X) (R151). -/
def execAndIzx (zp : Byte) (s : State) : Result := .next (andA (.indexedIndirectX zp) s)

/-- 0x25 AND, Zero Page (R151). -/
def execAndZp (zp : Byte) (s : State) : Result := .next (andA (.zeroPage zp) s)

/-- 0x29 AND, Immediate (R151). -/
def execAndImm (imm : Byte) (s : State) : Result := .next (andA (.immediate imm) s)

/-- 0x2D AND, Absolute (R151). -/
def execAndAbs (addr : Word) (s : State) : Result := .next (andA (.absolute addr) s)

/-- 0x31 AND, Indirect Indexed (Y) (R151). -/
def execAndIzy (zp : Byte) (s : State) : Result := .next (andA (.indirectIndexedY zp) s)

/-- 0x35 AND, Zero Page,X (R151). -/
def execAndZpx (zp : Byte) (s : State) : Result := .next (andA (.zeroPageX zp) s)

/-- 0x39 AND, Absolute,Y (R151). -/
def execAndAby (base : Word) (s : State) : Result := .next (andA (.absoluteY base) s)

/-- 0x3D AND, Absolute,X (R151). -/
def execAndAbx (base : Word) (s : State) : Result := .next (andA (.absoluteX base) s)

/-- ORA (R152). -/
def oraA (op : Operand) (s : State) : State := combineA (fun a m => a ||| m) op s

/-- 0x01 ORA, Indexed Indirect (X) (R152). -/
def execOraIzx (zp : Byte) (s : State) : Result := .next (oraA (.indexedIndirectX zp) s)

/-- 0x05 ORA, Zero Page (R152). -/
def execOraZp (zp : Byte) (s : State) : Result := .next (oraA (.zeroPage zp) s)

/-- 0x09 ORA, Immediate (R152). -/
def execOraImm (imm : Byte) (s : State) : Result := .next (oraA (.immediate imm) s)

/-- 0x0D ORA, Absolute (R152). -/
def execOraAbs (addr : Word) (s : State) : Result := .next (oraA (.absolute addr) s)

/-- 0x11 ORA, Indirect Indexed (Y) (R152). -/
def execOraIzy (zp : Byte) (s : State) : Result := .next (oraA (.indirectIndexedY zp) s)

/-- 0x15 ORA, Zero Page,X (R152). -/
def execOraZpx (zp : Byte) (s : State) : Result := .next (oraA (.zeroPageX zp) s)

/-- 0x19 ORA, Absolute,Y (R152). -/
def execOraAby (base : Word) (s : State) : Result := .next (oraA (.absoluteY base) s)

/-- 0x1D ORA, Absolute,X (R152). -/
def execOraAbx (base : Word) (s : State) : Result := .next (oraA (.absoluteX base) s)

/-- EOR (R153). -/
def eorA (op : Operand) (s : State) : State := combineA (fun a m => a ^^^ m) op s

/-- 0x41 EOR, Indexed Indirect (X) (R153). -/
def execEorIzx (zp : Byte) (s : State) : Result := .next (eorA (.indexedIndirectX zp) s)

/-- 0x45 EOR, Zero Page (R153). -/
def execEorZp (zp : Byte) (s : State) : Result := .next (eorA (.zeroPage zp) s)

/-- 0x49 EOR, Immediate (R153). -/
def execEorImm (imm : Byte) (s : State) : Result := .next (eorA (.immediate imm) s)

/-- 0x4D EOR, Absolute (R153). -/
def execEorAbs (addr : Word) (s : State) : Result := .next (eorA (.absolute addr) s)

/-- 0x51 EOR, Indirect Indexed (Y) (R153). -/
def execEorIzy (zp : Byte) (s : State) : Result := .next (eorA (.indirectIndexedY zp) s)

/-- 0x55 EOR, Zero Page,X (R153). -/
def execEorZpx (zp : Byte) (s : State) : Result := .next (eorA (.zeroPageX zp) s)

/-- 0x59 EOR, Absolute,Y (R153). -/
def execEorAby (base : Word) (s : State) : Result := .next (eorA (.absoluteY base) s)

/-- 0x5D EOR, Absolute,X (R153). -/
def execEorAbx (base : Word) (s : State) : Result := .next (eorA (.absoluteX base) s)

end Sys2Proof.Machine
end

