-- ==== Sys2Proof/Machine/Shift.lean ====
section
/-! DEFINITION. The shifts and rotates ASL, LSR, ROL and ROR, on the accumulator or on a memory byte (R154 to R157). -/

namespace Sys2Proof.Machine

/-- Shift the operand: the result is written back, C takes the bit shifted out, Z and N the result. A rotate takes the carry in
from the state before C is written. -/
def shiftOperand (f : Bool → Byte → Shifted) (op : Operand) (s : State) : State :=
  modifyOperand (fun t v => (f t.p.c v).result) (fun t v => shiftedFlags (f t.p.c v) t.p) op s

/-- ASL (R154). -/
def asl (op : Operand) (s : State) : State := shiftOperand (fun _ v => shiftLeft v) op s

/-- 0x06 ASL, Zero Page (R154). -/
def execAslZp (zp : Byte) (s : State) : Result := .next (asl (.zeroPage zp) s)

/-- 0x0A ASL, Accumulator (R154). -/
def execAslAcc (s : State) : Result := .next (asl .accumulator s)

/-- 0x0E ASL, Absolute (R154). -/
def execAslAbs (addr : Word) (s : State) : Result := .next (asl (.absolute addr) s)

/-- 0x16 ASL, Zero Page,X (R154). -/
def execAslZpx (zp : Byte) (s : State) : Result := .next (asl (.zeroPageX zp) s)

/-- 0x1E ASL, Absolute,X (R154). -/
def execAslAbx (base : Word) (s : State) : Result := .next (asl (.absoluteX base) s)

/-- LSR (R155). -/
def lsr (op : Operand) (s : State) : State := shiftOperand (fun _ v => shiftRight v) op s

/-- 0x46 LSR, Zero Page (R155). -/
def execLsrZp (zp : Byte) (s : State) : Result := .next (lsr (.zeroPage zp) s)

/-- 0x4A LSR, Accumulator (R155). -/
def execLsrAcc (s : State) : Result := .next (lsr .accumulator s)

/-- 0x4E LSR, Absolute (R155). -/
def execLsrAbs (addr : Word) (s : State) : Result := .next (lsr (.absolute addr) s)

/-- 0x56 LSR, Zero Page,X (R155). -/
def execLsrZpx (zp : Byte) (s : State) : Result := .next (lsr (.zeroPageX zp) s)

/-- 0x5E LSR, Absolute,X (R155). -/
def execLsrAbx (base : Word) (s : State) : Result := .next (lsr (.absoluteX base) s)

/-- ROL (R156). -/
def rol (op : Operand) (s : State) : State := shiftOperand rotateLeft op s

/-- 0x26 ROL, Zero Page (R156). -/
def execRolZp (zp : Byte) (s : State) : Result := .next (rol (.zeroPage zp) s)

/-- 0x2A ROL, Accumulator (R156). -/
def execRolAcc (s : State) : Result := .next (rol .accumulator s)

/-- 0x2E ROL, Absolute (R156). -/
def execRolAbs (addr : Word) (s : State) : Result := .next (rol (.absolute addr) s)

/-- 0x36 ROL, Zero Page,X (R156). -/
def execRolZpx (zp : Byte) (s : State) : Result := .next (rol (.zeroPageX zp) s)

/-- 0x3E ROL, Absolute,X (R156). -/
def execRolAbx (base : Word) (s : State) : Result := .next (rol (.absoluteX base) s)

/-- ROR (R157). -/
def ror (op : Operand) (s : State) : State := shiftOperand rotateRight op s

/-- 0x66 ROR, Zero Page (R157). -/
def execRorZp (zp : Byte) (s : State) : Result := .next (ror (.zeroPage zp) s)

/-- 0x6A ROR, Accumulator (R157). -/
def execRorAcc (s : State) : Result := .next (ror .accumulator s)

/-- 0x6E ROR, Absolute (R157). -/
def execRorAbs (addr : Word) (s : State) : Result := .next (ror (.absolute addr) s)

/-- 0x76 ROR, Zero Page,X (R157). -/
def execRorZpx (zp : Byte) (s : State) : Result := .next (ror (.zeroPageX zp) s)

/-- 0x7E ROR, Absolute,X (R157). -/
def execRorAbx (base : Word) (s : State) : Result := .next (ror (.absoluteX base) s)

end Sys2Proof.Machine
end

