-- ==== Sys2Proof/Machine/Stack.lean ====
section
/-! DEFINITION. The stack instructions PHA, PHP, PLA and PLP (R252 to R255). -/

namespace Sys2Proof.Machine

/-- PHA (R252). -/
def pha (s : State) : State :=
  let t := resolveImplicit s
  push t.a t

/-- 0x48 PHA, Implicit (R252). -/
def execPha (s : State) : Result := .next (pha s)

/-- PHP (R253): the pushed byte has 0 in the Break position; the stored flags do not change. -/
def php (s : State) : State :=
  let t := resolveImplicit s
  push (packP false t.p) t

/-- 0x08 PHP, Implicit (R253). -/
def execPhp (s : State) : Result := .next (php s)

/-- PLA (R254). -/
def pla (s : State) : State :=
  let v := pull (resolveImplicit s)
  (v.2.setA v.1).setP (setZN v.1 v.2.p)

/-- 0x68 PLA, Implicit (R254). -/
def execPla (s : State) : Result := .next (pla s)

/-- PLP (R255). -/
def plp (s : State) : State :=
  let v := pull (resolveImplicit s)
  v.2.setP (unpackP v.1)

/-- 0x28 PLP, Implicit (R255). -/
def execPlp (s : State) : Result := .next (plp s)

end Sys2Proof.Machine
end

