-- ==== Sys2Proof/Machine/System.lean ====
section
/-! DEFINITION. BRK, the documented NOP and the 105 illegal rows (R270 to R274). -/

namespace Sys2Proof.Machine

/-- BRK (R270): the padding byte is skipped and not read; Break is 1 while the three bytes are pushed and 0 afterwards; I is set
after the status push, so the pushed I is the one before. -/
def brk (s : State) : State :=
  let t := resolveImplicit s
  let t1 := t.setPC (t.pc + 1#16)
  let t2 := takeInterrupt irqVector true (t1.setP { t1.p with b := true })
  t2.setP { t2.p with b := false }

/-- 0x00 BRK, Implicit (R270). -/
def execBrk (_pad : Byte) (s : State) : Result := .next (brk s)

/-- NOP (R271). -/
def nop (s : State) : State := resolveImplicit s

/-- 0xEA NOP, Implicit (R271). -/
def execNop (s : State) : Result := .next (nop s)

/-- An illegal row (R272, R273): its resolver runs and what it answers is discarded. -/
def illegal (op : Operand) (s : State) : State := (resolve op s).2

/-- 0x03 *SLO, Indexed Indirect (X) (R272). -/
def execIllSlo03 (zp : Byte) (s : State) : Result := .next (illegal (.indexedIndirectX zp) s)

/-- 0x07 *SLO, Zero Page (R272). -/
def execIllSlo07 (zp : Byte) (s : State) : Result := .next (illegal (.zeroPage zp) s)

/-- 0x0F *SLO, Absolute (R272). -/
def execIllSlo0F (addr : Word) (s : State) : Result := .next (illegal (.absolute addr) s)

/-- 0x13 *SLO, Indirect Indexed (Y) (R272). -/
def execIllSlo13 (zp : Byte) (s : State) : Result := .next (illegal (.indirectIndexedY zp) s)

/-- 0x17 *SLO, Zero Page,X (R272). -/
def execIllSlo17 (zp : Byte) (s : State) : Result := .next (illegal (.zeroPageX zp) s)

/-- 0x1B *SLO, Absolute,Y (R272). -/
def execIllSlo1B (base : Word) (s : State) : Result := .next (illegal (.absoluteY base) s)

/-- 0x1F *SLO, Absolute,X (R272). -/
def execIllSlo1F (base : Word) (s : State) : Result := .next (illegal (.absoluteX base) s)

/-- 0x23 *RLA, Indexed Indirect (X) (R272). -/
def execIllRla23 (zp : Byte) (s : State) : Result := .next (illegal (.indexedIndirectX zp) s)

/-- 0x27 *RLA, Zero Page (R272). -/
def execIllRla27 (zp : Byte) (s : State) : Result := .next (illegal (.zeroPage zp) s)

/-- 0x2F *RLA, Absolute (R272). -/
def execIllRla2F (addr : Word) (s : State) : Result := .next (illegal (.absolute addr) s)

/-- 0x33 *RLA, Indirect Indexed (Y) (R272). -/
def execIllRla33 (zp : Byte) (s : State) : Result := .next (illegal (.indirectIndexedY zp) s)

/-- 0x37 *RLA, Zero Page,X (R272). -/
def execIllRla37 (zp : Byte) (s : State) : Result := .next (illegal (.zeroPageX zp) s)

/-- 0x3B *RLA, Absolute,Y (R272). -/
def execIllRla3B (base : Word) (s : State) : Result := .next (illegal (.absoluteY base) s)

/-- 0x3F *RLA, Absolute,X (R272). -/
def execIllRla3F (base : Word) (s : State) : Result := .next (illegal (.absoluteX base) s)

/-- 0x43 *SRE, Indexed Indirect (X) (R272). -/
def execIllSre43 (zp : Byte) (s : State) : Result := .next (illegal (.indexedIndirectX zp) s)

/-- 0x47 *SRE, Zero Page (R272). -/
def execIllSre47 (zp : Byte) (s : State) : Result := .next (illegal (.zeroPage zp) s)

/-- 0x4F *SRE, Absolute (R272). -/
def execIllSre4F (addr : Word) (s : State) : Result := .next (illegal (.absolute addr) s)

/-- 0x53 *SRE, Indirect Indexed (Y) (R272). -/
def execIllSre53 (zp : Byte) (s : State) : Result := .next (illegal (.indirectIndexedY zp) s)

/-- 0x57 *SRE, Zero Page,X (R272). -/
def execIllSre57 (zp : Byte) (s : State) : Result := .next (illegal (.zeroPageX zp) s)

/-- 0x5B *SRE, Absolute,Y (R272). -/
def execIllSre5B (base : Word) (s : State) : Result := .next (illegal (.absoluteY base) s)

/-- 0x5F *SRE, Absolute,X (R272). -/
def execIllSre5F (base : Word) (s : State) : Result := .next (illegal (.absoluteX base) s)

/-- 0x63 *RRA, Indexed Indirect (X) (R272). -/
def execIllRra63 (zp : Byte) (s : State) : Result := .next (illegal (.indexedIndirectX zp) s)

/-- 0x67 *RRA, Zero Page (R272). -/
def execIllRra67 (zp : Byte) (s : State) : Result := .next (illegal (.zeroPage zp) s)

/-- 0x6F *RRA, Absolute (R272). -/
def execIllRra6F (addr : Word) (s : State) : Result := .next (illegal (.absolute addr) s)

/-- 0x73 *RRA, Indirect Indexed (Y) (R272). -/
def execIllRra73 (zp : Byte) (s : State) : Result := .next (illegal (.indirectIndexedY zp) s)

/-- 0x77 *RRA, Zero Page,X (R272). -/
def execIllRra77 (zp : Byte) (s : State) : Result := .next (illegal (.zeroPageX zp) s)

/-- 0x7B *RRA, Absolute,Y (R272). -/
def execIllRra7B (base : Word) (s : State) : Result := .next (illegal (.absoluteY base) s)

/-- 0x7F *RRA, Absolute,X (R272). -/
def execIllRra7F (base : Word) (s : State) : Result := .next (illegal (.absoluteX base) s)

/-- 0x83 *SAX, Indexed Indirect (X) (R272). -/
def execIllSax83 (zp : Byte) (s : State) : Result := .next (illegal (.indexedIndirectX zp) s)

/-- 0x87 *SAX, Zero Page (R272). -/
def execIllSax87 (zp : Byte) (s : State) : Result := .next (illegal (.zeroPage zp) s)

/-- 0x8F *SAX, Absolute (R272). -/
def execIllSax8F (addr : Word) (s : State) : Result := .next (illegal (.absolute addr) s)

/-- 0x97 *SAX, Zero Page,Y (R272). -/
def execIllSax97 (zp : Byte) (s : State) : Result := .next (illegal (.zeroPageY zp) s)

/-- 0xA3 *LAX, Indexed Indirect (X) (R272). -/
def execIllLaxA3 (zp : Byte) (s : State) : Result := .next (illegal (.indexedIndirectX zp) s)

/-- 0xA7 *LAX, Zero Page (R272). -/
def execIllLaxA7 (zp : Byte) (s : State) : Result := .next (illegal (.zeroPage zp) s)

/-- 0xAF *LAX, Absolute (R272). -/
def execIllLaxAF (addr : Word) (s : State) : Result := .next (illegal (.absolute addr) s)

/-- 0xB3 *LAX, Indirect Indexed (Y) (R272). -/
def execIllLaxB3 (zp : Byte) (s : State) : Result := .next (illegal (.indirectIndexedY zp) s)

/-- 0xB7 *LAX, Zero Page,Y (R272). -/
def execIllLaxB7 (zp : Byte) (s : State) : Result := .next (illegal (.zeroPageY zp) s)

/-- 0xBF *LAX, Absolute,Y (R272). -/
def execIllLaxBF (base : Word) (s : State) : Result := .next (illegal (.absoluteY base) s)

/-- 0xAB *LXA, Immediate (R272). -/
def execIllLxaAB (imm : Byte) (s : State) : Result := .next (illegal (.immediate imm) s)

/-- 0xC3 *DCP, Indexed Indirect (X) (R272). -/
def execIllDcpC3 (zp : Byte) (s : State) : Result := .next (illegal (.indexedIndirectX zp) s)

/-- 0xC7 *DCP, Zero Page (R272). -/
def execIllDcpC7 (zp : Byte) (s : State) : Result := .next (illegal (.zeroPage zp) s)

/-- 0xCF *DCP, Absolute (R272). -/
def execIllDcpCF (addr : Word) (s : State) : Result := .next (illegal (.absolute addr) s)

/-- 0xD3 *DCP, Indirect Indexed (Y) (R272). -/
def execIllDcpD3 (zp : Byte) (s : State) : Result := .next (illegal (.indirectIndexedY zp) s)

/-- 0xD7 *DCP, Zero Page,X (R272). -/
def execIllDcpD7 (zp : Byte) (s : State) : Result := .next (illegal (.zeroPageX zp) s)

/-- 0xDB *DCP, Absolute,Y (R272). -/
def execIllDcpDB (base : Word) (s : State) : Result := .next (illegal (.absoluteY base) s)

/-- 0xDF *DCP, Absolute,X (R272). -/
def execIllDcpDF (base : Word) (s : State) : Result := .next (illegal (.absoluteX base) s)

/-- 0xE3 *ISC, Indexed Indirect (X) (R272). -/
def execIllIscE3 (zp : Byte) (s : State) : Result := .next (illegal (.indexedIndirectX zp) s)

/-- 0xE7 *ISC, Zero Page (R272). -/
def execIllIscE7 (zp : Byte) (s : State) : Result := .next (illegal (.zeroPage zp) s)

/-- 0xEF *ISC, Absolute (R272). -/
def execIllIscEF (addr : Word) (s : State) : Result := .next (illegal (.absolute addr) s)

/-- 0xF3 *ISC, Indirect Indexed (Y) (R272). -/
def execIllIscF3 (zp : Byte) (s : State) : Result := .next (illegal (.indirectIndexedY zp) s)

/-- 0xF7 *ISC, Zero Page,X (R272). -/
def execIllIscF7 (zp : Byte) (s : State) : Result := .next (illegal (.zeroPageX zp) s)

/-- 0xFB *ISC, Absolute,Y (R272). -/
def execIllIscFB (base : Word) (s : State) : Result := .next (illegal (.absoluteY base) s)

/-- 0xFF *ISC, Absolute,X (R272). -/
def execIllIscFF (base : Word) (s : State) : Result := .next (illegal (.absoluteX base) s)

/-- 0x0B *ANC, Immediate (R272). -/
def execIllAnc0B (imm : Byte) (s : State) : Result := .next (illegal (.immediate imm) s)

/-- 0x2B *ANC, Immediate (R272). -/
def execIllAnc2B (imm : Byte) (s : State) : Result := .next (illegal (.immediate imm) s)

/-- 0x4B *ALR, Immediate (R272). -/
def execIllAlr4B (imm : Byte) (s : State) : Result := .next (illegal (.immediate imm) s)

/-- 0x6B *ARR, Immediate (R272). -/
def execIllArr6B (imm : Byte) (s : State) : Result := .next (illegal (.immediate imm) s)

/-- 0x8B *ANE, Immediate (R272). -/
def execIllAne8B (imm : Byte) (s : State) : Result := .next (illegal (.immediate imm) s)

/-- 0xCB *SBX, Immediate (R272). -/
def execIllSbxCB (imm : Byte) (s : State) : Result := .next (illegal (.immediate imm) s)

/-- 0xEB *USBC, Immediate (R272). -/
def execIllUsbcEB (imm : Byte) (s : State) : Result := .next (illegal (.immediate imm) s)

/-- 0x93 *SHA, Indirect Indexed (Y) (R272). -/
def execIllSha93 (zp : Byte) (s : State) : Result := .next (illegal (.indirectIndexedY zp) s)

/-- 0x9F *SHA, Absolute,Y (R272). -/
def execIllSha9F (base : Word) (s : State) : Result := .next (illegal (.absoluteY base) s)

/-- 0x9E *SHX, Absolute,Y (R272). -/
def execIllShx9E (base : Word) (s : State) : Result := .next (illegal (.absoluteY base) s)

/-- 0x9C *SHY, Absolute,X (R272). -/
def execIllShy9C (base : Word) (s : State) : Result := .next (illegal (.absoluteX base) s)

/-- 0x9B *TAS, Absolute,Y (R272). -/
def execIllTas9B (base : Word) (s : State) : Result := .next (illegal (.absoluteY base) s)

/-- 0xBB *LAS, Absolute,Y (R272). -/
def execIllLasBB (base : Word) (s : State) : Result := .next (illegal (.absoluteY base) s)

/-- 0x04 *NOP, Zero Page (R272). -/
def execIllNop04 (zp : Byte) (s : State) : Result := .next (illegal (.zeroPage zp) s)

/-- 0x0C *NOP, Absolute (R272). -/
def execIllNop0C (addr : Word) (s : State) : Result := .next (illegal (.absolute addr) s)

/-- 0x14 *NOP, Zero Page,X (R272). -/
def execIllNop14 (zp : Byte) (s : State) : Result := .next (illegal (.zeroPageX zp) s)

/-- 0x1A *NOP, Implicit (R272). -/
def execIllNop1A (s : State) : Result := .next (illegal .implicit s)

/-- 0x1C *NOP, Absolute,X (R272). -/
def execIllNop1C (base : Word) (s : State) : Result := .next (illegal (.absoluteX base) s)

/-- 0x34 *NOP, Zero Page,X (R272). -/
def execIllNop34 (zp : Byte) (s : State) : Result := .next (illegal (.zeroPageX zp) s)

/-- 0x3A *NOP, Implicit (R272). -/
def execIllNop3A (s : State) : Result := .next (illegal .implicit s)

/-- 0x3C *NOP, Absolute,X (R272). -/
def execIllNop3C (base : Word) (s : State) : Result := .next (illegal (.absoluteX base) s)

/-- 0x44 *NOP, Zero Page (R272). -/
def execIllNop44 (zp : Byte) (s : State) : Result := .next (illegal (.zeroPage zp) s)

/-- 0x54 *NOP, Zero Page,X (R272). -/
def execIllNop54 (zp : Byte) (s : State) : Result := .next (illegal (.zeroPageX zp) s)

/-- 0x5A *NOP, Implicit (R272). -/
def execIllNop5A (s : State) : Result := .next (illegal .implicit s)

/-- 0x5C *NOP, Absolute,X (R272). -/
def execIllNop5C (base : Word) (s : State) : Result := .next (illegal (.absoluteX base) s)

/-- 0x64 *NOP, Zero Page (R272). -/
def execIllNop64 (zp : Byte) (s : State) : Result := .next (illegal (.zeroPage zp) s)

/-- 0x74 *NOP, Zero Page,X (R272). -/
def execIllNop74 (zp : Byte) (s : State) : Result := .next (illegal (.zeroPageX zp) s)

/-- 0x7A *NOP, Implicit (R272). -/
def execIllNop7A (s : State) : Result := .next (illegal .implicit s)

/-- 0x7C *NOP, Absolute,X (R272). -/
def execIllNop7C (base : Word) (s : State) : Result := .next (illegal (.absoluteX base) s)

/-- 0x80 *NOP, Immediate (R272). -/
def execIllNop80 (imm : Byte) (s : State) : Result := .next (illegal (.immediate imm) s)

/-- 0x82 *NOP, Immediate (R272). -/
def execIllNop82 (imm : Byte) (s : State) : Result := .next (illegal (.immediate imm) s)

/-- 0x89 *NOP, Immediate (R272). -/
def execIllNop89 (imm : Byte) (s : State) : Result := .next (illegal (.immediate imm) s)

/-- 0xC2 *NOP, Immediate (R272). -/
def execIllNopC2 (imm : Byte) (s : State) : Result := .next (illegal (.immediate imm) s)

/-- 0xD4 *NOP, Zero Page,X (R272). -/
def execIllNopD4 (zp : Byte) (s : State) : Result := .next (illegal (.zeroPageX zp) s)

/-- 0xDA *NOP, Implicit (R272). -/
def execIllNopDA (s : State) : Result := .next (illegal .implicit s)

/-- 0xDC *NOP, Absolute,X (R272). -/
def execIllNopDC (base : Word) (s : State) : Result := .next (illegal (.absoluteX base) s)

/-- 0xE2 *NOP, Immediate (R272). -/
def execIllNopE2 (imm : Byte) (s : State) : Result := .next (illegal (.immediate imm) s)

/-- 0xF4 *NOP, Zero Page,X (R272). -/
def execIllNopF4 (zp : Byte) (s : State) : Result := .next (illegal (.zeroPageX zp) s)

/-- 0xFA *NOP, Implicit (R272). -/
def execIllNopFA (s : State) : Result := .next (illegal .implicit s)

/-- 0xFC *NOP, Absolute,X (R272). -/
def execIllNopFC (base : Word) (s : State) : Result := .next (illegal (.absoluteX base) s)

/-- 0x02 *KIL, Implicit (R272). -/
def execIllKil02 (s : State) : Result := .next (illegal .implicit s)

/-- 0x12 *KIL, Implicit (R272). -/
def execIllKil12 (s : State) : Result := .next (illegal .implicit s)

/-- 0x22 *KIL, Implicit (R272). -/
def execIllKil22 (s : State) : Result := .next (illegal .implicit s)

/-- 0x32 *KIL, Implicit (R272). -/
def execIllKil32 (s : State) : Result := .next (illegal .implicit s)

/-- 0x42 *KIL, Implicit (R272). -/
def execIllKil42 (s : State) : Result := .next (illegal .implicit s)

/-- 0x52 *KIL, Implicit (R272). -/
def execIllKil52 (s : State) : Result := .next (illegal .implicit s)

/-- 0x62 *KIL, Implicit (R272). -/
def execIllKil62 (s : State) : Result := .next (illegal .implicit s)

/-- 0x72 *KIL, Implicit (R272). -/
def execIllKil72 (s : State) : Result := .next (illegal .implicit s)

/-- 0x92 *KIL, Implicit (R272). -/
def execIllKil92 (s : State) : Result := .next (illegal .implicit s)

/-- 0xB2 *KIL, Implicit (R272). -/
def execIllKilB2 (s : State) : Result := .next (illegal .implicit s)

/-- 0xD2 *KIL, Implicit (R272). -/
def execIllKilD2 (s : State) : Result := .next (illegal .implicit s)

/-- 0xF2 *KIL, Implicit (R272). -/
def execIllKilF2 (s : State) : Result := .next (illegal .implicit s)

end Sys2Proof.Machine
end

