-- ==== Sys2Proof/Machine/Transfer.lean ====
section
/-! DEFINITION. The register transfers TAX, TAY, TXA, TYA, TSX and TXS (R246 to R251). -/

namespace Sys2Proof.Machine

/-- `A <- v` with Z and N from it, after the Implicit resolver (R248, R249). -/
def putA (v : Byte) (s : State) : State :=
  let t := resolveImplicit s
  (t.setA v).setP (setZN v t.p)

/-- 0xAA TAX, Implicit (R246). -/
def execTax (s : State) : Result := .next (putX s.a s)

/-- 0xA8 TAY, Implicit (R247). -/
def execTay (s : State) : Result := .next (putY s.a s)

/-- 0x8A TXA, Implicit (R248). -/
def execTxa (s : State) : Result := .next (putA s.x s)

/-- 0x98 TYA, Implicit (R249). -/
def execTya (s : State) : Result := .next (putA s.y s)

/-- 0xBA TSX, Implicit (R250). -/
def execTsx (s : State) : Result := .next (putX s.sp s)

/-- TXS (R251): no flag changes. -/
def txs (s : State) : State :=
  let t := resolveImplicit s
  t.setS t.x

/-- 0x9A TXS, Implicit (R251). -/
def execTxs (s : State) : Result := .next (txs s)

end Sys2Proof.Machine
end

