-- ==== Sys2Proof/Machine/Dispatch.lean ====
section
/-! DEFINITION. `exec`: the Execute phase of R293, the handler of each row bound to its resolver. -/

namespace Sys2Proof.Machine

def exec (i : Instr) (s : State) : Host.Outcome State Fault Refusal :=
  match i with
  | .brk pad => Sys2Proof.Machine.execBrk pad s
  | .oraIzx zp => Sys2Proof.Machine.execOraIzx zp s
  | .illKil02 => Sys2Proof.Machine.execIllKil02 s
  | .illSlo03 zp => Sys2Proof.Machine.execIllSlo03 zp s
  | .illNop04 zp => Sys2Proof.Machine.execIllNop04 zp s
  | .oraZp zp => Sys2Proof.Machine.execOraZp zp s
  | .aslZp zp => Sys2Proof.Machine.execAslZp zp s
  | .illSlo07 zp => Sys2Proof.Machine.execIllSlo07 zp s
  | .php => Sys2Proof.Machine.execPhp s
  | .oraImm imm => Sys2Proof.Machine.execOraImm imm s
  | .aslAcc => Sys2Proof.Machine.execAslAcc s
  | .illAnc0B imm => Sys2Proof.Machine.execIllAnc0B imm s
  | .illNop0C addr => Sys2Proof.Machine.execIllNop0C addr s
  | .oraAbs addr => Sys2Proof.Machine.execOraAbs addr s
  | .aslAbs addr => Sys2Proof.Machine.execAslAbs addr s
  | .illSlo0F addr => Sys2Proof.Machine.execIllSlo0F addr s
  | .bpl rel => Sys2Proof.Machine.execBpl rel s
  | .oraIzy zp => Sys2Proof.Machine.execOraIzy zp s
  | .illKil12 => Sys2Proof.Machine.execIllKil12 s
  | .illSlo13 zp => Sys2Proof.Machine.execIllSlo13 zp s
  | .illNop14 zp => Sys2Proof.Machine.execIllNop14 zp s
  | .oraZpx zp => Sys2Proof.Machine.execOraZpx zp s
  | .aslZpx zp => Sys2Proof.Machine.execAslZpx zp s
  | .illSlo17 zp => Sys2Proof.Machine.execIllSlo17 zp s
  | .clc => Sys2Proof.Machine.execClc s
  | .oraAby base => Sys2Proof.Machine.execOraAby base s
  | .illNop1A => Sys2Proof.Machine.execIllNop1A s
  | .illSlo1B base => Sys2Proof.Machine.execIllSlo1B base s
  | .illNop1C base => Sys2Proof.Machine.execIllNop1C base s
  | .oraAbx base => Sys2Proof.Machine.execOraAbx base s
  | .aslAbx base => Sys2Proof.Machine.execAslAbx base s
  | .illSlo1F base => Sys2Proof.Machine.execIllSlo1F base s
  | .jsr addr => Sys2Proof.Machine.execJsr addr s
  | .andIzx zp => Sys2Proof.Machine.execAndIzx zp s
  | .illKil22 => Sys2Proof.Machine.execIllKil22 s
  | .illRla23 zp => Sys2Proof.Machine.execIllRla23 zp s
  | .bitZp zp => Sys2Proof.Machine.execBitZp zp s
  | .andZp zp => Sys2Proof.Machine.execAndZp zp s
  | .rolZp zp => Sys2Proof.Machine.execRolZp zp s
  | .illRla27 zp => Sys2Proof.Machine.execIllRla27 zp s
  | .plp => Sys2Proof.Machine.execPlp s
  | .andImm imm => Sys2Proof.Machine.execAndImm imm s
  | .rolAcc => Sys2Proof.Machine.execRolAcc s
  | .illAnc2B imm => Sys2Proof.Machine.execIllAnc2B imm s
  | .bitAbs addr => Sys2Proof.Machine.execBitAbs addr s
  | .andAbs addr => Sys2Proof.Machine.execAndAbs addr s
  | .rolAbs addr => Sys2Proof.Machine.execRolAbs addr s
  | .illRla2F addr => Sys2Proof.Machine.execIllRla2F addr s
  | .bmi rel => Sys2Proof.Machine.execBmi rel s
  | .andIzy zp => Sys2Proof.Machine.execAndIzy zp s
  | .illKil32 => Sys2Proof.Machine.execIllKil32 s
  | .illRla33 zp => Sys2Proof.Machine.execIllRla33 zp s
  | .illNop34 zp => Sys2Proof.Machine.execIllNop34 zp s
  | .andZpx zp => Sys2Proof.Machine.execAndZpx zp s
  | .rolZpx zp => Sys2Proof.Machine.execRolZpx zp s
  | .illRla37 zp => Sys2Proof.Machine.execIllRla37 zp s
  | .sec => Sys2Proof.Machine.execSec s
  | .andAby base => Sys2Proof.Machine.execAndAby base s
  | .illNop3A => Sys2Proof.Machine.execIllNop3A s
  | .illRla3B base => Sys2Proof.Machine.execIllRla3B base s
  | .illNop3C base => Sys2Proof.Machine.execIllNop3C base s
  | .andAbx base => Sys2Proof.Machine.execAndAbx base s
  | .rolAbx base => Sys2Proof.Machine.execRolAbx base s
  | .illRla3F base => Sys2Proof.Machine.execIllRla3F base s
  | .rti => Sys2Proof.Machine.execRti s
  | .eorIzx zp => Sys2Proof.Machine.execEorIzx zp s
  | .illKil42 => Sys2Proof.Machine.execIllKil42 s
  | .illSre43 zp => Sys2Proof.Machine.execIllSre43 zp s
  | .illNop44 zp => Sys2Proof.Machine.execIllNop44 zp s
  | .eorZp zp => Sys2Proof.Machine.execEorZp zp s
  | .lsrZp zp => Sys2Proof.Machine.execLsrZp zp s
  | .illSre47 zp => Sys2Proof.Machine.execIllSre47 zp s
  | .pha => Sys2Proof.Machine.execPha s
  | .eorImm imm => Sys2Proof.Machine.execEorImm imm s
  | .lsrAcc => Sys2Proof.Machine.execLsrAcc s
  | .illAlr4B imm => Sys2Proof.Machine.execIllAlr4B imm s
  | .jmpAbs addr => Sys2Proof.Machine.execJmpAbs addr s
  | .eorAbs addr => Sys2Proof.Machine.execEorAbs addr s
  | .lsrAbs addr => Sys2Proof.Machine.execLsrAbs addr s
  | .illSre4F addr => Sys2Proof.Machine.execIllSre4F addr s
  | .bvc rel => Sys2Proof.Machine.execBvc rel s
  | .eorIzy zp => Sys2Proof.Machine.execEorIzy zp s
  | .illKil52 => Sys2Proof.Machine.execIllKil52 s
  | .illSre53 zp => Sys2Proof.Machine.execIllSre53 zp s
  | .illNop54 zp => Sys2Proof.Machine.execIllNop54 zp s
  | .eorZpx zp => Sys2Proof.Machine.execEorZpx zp s
  | .lsrZpx zp => Sys2Proof.Machine.execLsrZpx zp s
  | .illSre57 zp => Sys2Proof.Machine.execIllSre57 zp s
  | .cli => Sys2Proof.Machine.execCli s
  | .eorAby base => Sys2Proof.Machine.execEorAby base s
  | .illNop5A => Sys2Proof.Machine.execIllNop5A s
  | .illSre5B base => Sys2Proof.Machine.execIllSre5B base s
  | .illNop5C base => Sys2Proof.Machine.execIllNop5C base s
  | .eorAbx base => Sys2Proof.Machine.execEorAbx base s
  | .lsrAbx base => Sys2Proof.Machine.execLsrAbx base s
  | .illSre5F base => Sys2Proof.Machine.execIllSre5F base s
  | .rts => Sys2Proof.Machine.execRts s
  | .adcIzx zp => Sys2Proof.Machine.execAdcIzx zp s
  | .illKil62 => Sys2Proof.Machine.execIllKil62 s
  | .illRra63 zp => Sys2Proof.Machine.execIllRra63 zp s
  | .illNop64 zp => Sys2Proof.Machine.execIllNop64 zp s
  | .adcZp zp => Sys2Proof.Machine.execAdcZp zp s
  | .rorZp zp => Sys2Proof.Machine.execRorZp zp s
  | .illRra67 zp => Sys2Proof.Machine.execIllRra67 zp s
  | .pla => Sys2Proof.Machine.execPla s
  | .adcImm imm => Sys2Proof.Machine.execAdcImm imm s
  | .rorAcc => Sys2Proof.Machine.execRorAcc s
  | .illArr6B imm => Sys2Proof.Machine.execIllArr6B imm s
  | .jmpInd ptr => Sys2Proof.Machine.execJmpInd ptr s
  | .adcAbs addr => Sys2Proof.Machine.execAdcAbs addr s
  | .rorAbs addr => Sys2Proof.Machine.execRorAbs addr s
  | .illRra6F addr => Sys2Proof.Machine.execIllRra6F addr s
  | .bvs rel => Sys2Proof.Machine.execBvs rel s
  | .adcIzy zp => Sys2Proof.Machine.execAdcIzy zp s
  | .illKil72 => Sys2Proof.Machine.execIllKil72 s
  | .illRra73 zp => Sys2Proof.Machine.execIllRra73 zp s
  | .illNop74 zp => Sys2Proof.Machine.execIllNop74 zp s
  | .adcZpx zp => Sys2Proof.Machine.execAdcZpx zp s
  | .rorZpx zp => Sys2Proof.Machine.execRorZpx zp s
  | .illRra77 zp => Sys2Proof.Machine.execIllRra77 zp s
  | .sei => Sys2Proof.Machine.execSei s
  | .adcAby base => Sys2Proof.Machine.execAdcAby base s
  | .illNop7A => Sys2Proof.Machine.execIllNop7A s
  | .illRra7B base => Sys2Proof.Machine.execIllRra7B base s
  | .illNop7C base => Sys2Proof.Machine.execIllNop7C base s
  | .adcAbx base => Sys2Proof.Machine.execAdcAbx base s
  | .rorAbx base => Sys2Proof.Machine.execRorAbx base s
  | .illRra7F base => Sys2Proof.Machine.execIllRra7F base s
  | .illNop80 imm => Sys2Proof.Machine.execIllNop80 imm s
  | .staIzx zp => Sys2Proof.Machine.execStaIzx zp s
  | .illNop82 imm => Sys2Proof.Machine.execIllNop82 imm s
  | .illSax83 zp => Sys2Proof.Machine.execIllSax83 zp s
  | .styZp zp => Sys2Proof.Machine.execStyZp zp s
  | .staZp zp => Sys2Proof.Machine.execStaZp zp s
  | .stxZp zp => Sys2Proof.Machine.execStxZp zp s
  | .illSax87 zp => Sys2Proof.Machine.execIllSax87 zp s
  | .dey => Sys2Proof.Machine.execDey s
  | .illNop89 imm => Sys2Proof.Machine.execIllNop89 imm s
  | .txa => Sys2Proof.Machine.execTxa s
  | .illAne8B imm => Sys2Proof.Machine.execIllAne8B imm s
  | .styAbs addr => Sys2Proof.Machine.execStyAbs addr s
  | .staAbs addr => Sys2Proof.Machine.execStaAbs addr s
  | .stxAbs addr => Sys2Proof.Machine.execStxAbs addr s
  | .illSax8F addr => Sys2Proof.Machine.execIllSax8F addr s
  | .bcc rel => Sys2Proof.Machine.execBcc rel s
  | .staIzy zp => Sys2Proof.Machine.execStaIzy zp s
  | .illKil92 => Sys2Proof.Machine.execIllKil92 s
  | .illSha93 zp => Sys2Proof.Machine.execIllSha93 zp s
  | .styZpx zp => Sys2Proof.Machine.execStyZpx zp s
  | .staZpx zp => Sys2Proof.Machine.execStaZpx zp s
  | .stxZpy zp => Sys2Proof.Machine.execStxZpy zp s
  | .illSax97 zp => Sys2Proof.Machine.execIllSax97 zp s
  | .tya => Sys2Proof.Machine.execTya s
  | .staAby base => Sys2Proof.Machine.execStaAby base s
  | .txs => Sys2Proof.Machine.execTxs s
  | .illTas9B base => Sys2Proof.Machine.execIllTas9B base s
  | .illShy9C base => Sys2Proof.Machine.execIllShy9C base s
  | .staAbx base => Sys2Proof.Machine.execStaAbx base s
  | .illShx9E base => Sys2Proof.Machine.execIllShx9E base s
  | .illSha9F base => Sys2Proof.Machine.execIllSha9F base s
  | .ldyImm imm => Sys2Proof.Machine.execLdyImm imm s
  | .ldaIzx zp => Sys2Proof.Machine.execLdaIzx zp s
  | .ldxImm imm => Sys2Proof.Machine.execLdxImm imm s
  | .illLaxA3 zp => Sys2Proof.Machine.execIllLaxA3 zp s
  | .ldyZp zp => Sys2Proof.Machine.execLdyZp zp s
  | .ldaZp zp => Sys2Proof.Machine.execLdaZp zp s
  | .ldxZp zp => Sys2Proof.Machine.execLdxZp zp s
  | .illLaxA7 zp => Sys2Proof.Machine.execIllLaxA7 zp s
  | .tay => Sys2Proof.Machine.execTay s
  | .ldaImm imm => Sys2Proof.Machine.execLdaImm imm s
  | .tax => Sys2Proof.Machine.execTax s
  | .illLxaAB imm => Sys2Proof.Machine.execIllLxaAB imm s
  | .ldyAbs addr => Sys2Proof.Machine.execLdyAbs addr s
  | .ldaAbs addr => Sys2Proof.Machine.execLdaAbs addr s
  | .ldxAbs addr => Sys2Proof.Machine.execLdxAbs addr s
  | .illLaxAF addr => Sys2Proof.Machine.execIllLaxAF addr s
  | .bcs rel => Sys2Proof.Machine.execBcs rel s
  | .ldaIzy zp => Sys2Proof.Machine.execLdaIzy zp s
  | .illKilB2 => Sys2Proof.Machine.execIllKilB2 s
  | .illLaxB3 zp => Sys2Proof.Machine.execIllLaxB3 zp s
  | .ldyZpx zp => Sys2Proof.Machine.execLdyZpx zp s
  | .ldaZpx zp => Sys2Proof.Machine.execLdaZpx zp s
  | .ldxZpy zp => Sys2Proof.Machine.execLdxZpy zp s
  | .illLaxB7 zp => Sys2Proof.Machine.execIllLaxB7 zp s
  | .clv => Sys2Proof.Machine.execClv s
  | .ldaAby base => Sys2Proof.Machine.execLdaAby base s
  | .tsx => Sys2Proof.Machine.execTsx s
  | .illLasBB base => Sys2Proof.Machine.execIllLasBB base s
  | .ldyAbx base => Sys2Proof.Machine.execLdyAbx base s
  | .ldaAbx base => Sys2Proof.Machine.execLdaAbx base s
  | .ldxAby base => Sys2Proof.Machine.execLdxAby base s
  | .illLaxBF base => Sys2Proof.Machine.execIllLaxBF base s
  | .cpyImm imm => Sys2Proof.Machine.execCpyImm imm s
  | .cmpIzx zp => Sys2Proof.Machine.execCmpIzx zp s
  | .illNopC2 imm => Sys2Proof.Machine.execIllNopC2 imm s
  | .illDcpC3 zp => Sys2Proof.Machine.execIllDcpC3 zp s
  | .cpyZp zp => Sys2Proof.Machine.execCpyZp zp s
  | .cmpZp zp => Sys2Proof.Machine.execCmpZp zp s
  | .decZp zp => Sys2Proof.Machine.execDecZp zp s
  | .illDcpC7 zp => Sys2Proof.Machine.execIllDcpC7 zp s
  | .iny => Sys2Proof.Machine.execIny s
  | .cmpImm imm => Sys2Proof.Machine.execCmpImm imm s
  | .dex => Sys2Proof.Machine.execDex s
  | .illSbxCB imm => Sys2Proof.Machine.execIllSbxCB imm s
  | .cpyAbs addr => Sys2Proof.Machine.execCpyAbs addr s
  | .cmpAbs addr => Sys2Proof.Machine.execCmpAbs addr s
  | .decAbs addr => Sys2Proof.Machine.execDecAbs addr s
  | .illDcpCF addr => Sys2Proof.Machine.execIllDcpCF addr s
  | .bne rel => Sys2Proof.Machine.execBne rel s
  | .cmpIzy zp => Sys2Proof.Machine.execCmpIzy zp s
  | .illKilD2 => Sys2Proof.Machine.execIllKilD2 s
  | .illDcpD3 zp => Sys2Proof.Machine.execIllDcpD3 zp s
  | .illNopD4 zp => Sys2Proof.Machine.execIllNopD4 zp s
  | .cmpZpx zp => Sys2Proof.Machine.execCmpZpx zp s
  | .decZpx zp => Sys2Proof.Machine.execDecZpx zp s
  | .illDcpD7 zp => Sys2Proof.Machine.execIllDcpD7 zp s
  | .cld => Sys2Proof.Machine.execCld s
  | .cmpAby base => Sys2Proof.Machine.execCmpAby base s
  | .illNopDA => Sys2Proof.Machine.execIllNopDA s
  | .illDcpDB base => Sys2Proof.Machine.execIllDcpDB base s
  | .illNopDC base => Sys2Proof.Machine.execIllNopDC base s
  | .cmpAbx base => Sys2Proof.Machine.execCmpAbx base s
  | .decAbx base => Sys2Proof.Machine.execDecAbx base s
  | .illDcpDF base => Sys2Proof.Machine.execIllDcpDF base s
  | .cpxImm imm => Sys2Proof.Machine.execCpxImm imm s
  | .sbcIzx zp => Sys2Proof.Machine.execSbcIzx zp s
  | .illNopE2 imm => Sys2Proof.Machine.execIllNopE2 imm s
  | .illIscE3 zp => Sys2Proof.Machine.execIllIscE3 zp s
  | .cpxZp zp => Sys2Proof.Machine.execCpxZp zp s
  | .sbcZp zp => Sys2Proof.Machine.execSbcZp zp s
  | .incZp zp => Sys2Proof.Machine.execIncZp zp s
  | .illIscE7 zp => Sys2Proof.Machine.execIllIscE7 zp s
  | .inx => Sys2Proof.Machine.execInx s
  | .sbcImm imm => Sys2Proof.Machine.execSbcImm imm s
  | .nop => Sys2Proof.Machine.execNop s
  | .illUsbcEB imm => Sys2Proof.Machine.execIllUsbcEB imm s
  | .cpxAbs addr => Sys2Proof.Machine.execCpxAbs addr s
  | .sbcAbs addr => Sys2Proof.Machine.execSbcAbs addr s
  | .incAbs addr => Sys2Proof.Machine.execIncAbs addr s
  | .illIscEF addr => Sys2Proof.Machine.execIllIscEF addr s
  | .beq rel => Sys2Proof.Machine.execBeq rel s
  | .sbcIzy zp => Sys2Proof.Machine.execSbcIzy zp s
  | .illKilF2 => Sys2Proof.Machine.execIllKilF2 s
  | .illIscF3 zp => Sys2Proof.Machine.execIllIscF3 zp s
  | .illNopF4 zp => Sys2Proof.Machine.execIllNopF4 zp s
  | .sbcZpx zp => Sys2Proof.Machine.execSbcZpx zp s
  | .incZpx zp => Sys2Proof.Machine.execIncZpx zp s
  | .illIscF7 zp => Sys2Proof.Machine.execIllIscF7 zp s
  | .sed => Sys2Proof.Machine.execSed s
  | .sbcAby base => Sys2Proof.Machine.execSbcAby base s
  | .illNopFA => Sys2Proof.Machine.execIllNopFA s
  | .illIscFB base => Sys2Proof.Machine.execIllIscFB base s
  | .illNopFC base => Sys2Proof.Machine.execIllNopFC base s
  | .sbcAbx base => Sys2Proof.Machine.execSbcAbx base s
  | .incAbx base => Sys2Proof.Machine.execIncAbx base s
  | .illIscFF base => Sys2Proof.Machine.execIllIscFF base s

end Sys2Proof.Machine
end

