-- ==== Sys2Proof/Machine/Engine.lean ====
section
/-! DEFINITION. The phases of a step around Execute (spec/47_engine.md and 60_exceptions.md): the DMA stall, Fetch, Account,
InterruptCheck and the counter update. -/

namespace Sys2Proof.Machine

/-- The start of a step (R290, R291): the step's cycle total begins with the whole DMA stall, which is consumed. The bus log
begins empty. -/
def beginStep (s : State) : State := ((s.setBusLog []).setStepCycles s.dmaCycles).setDma 0

/-- The opcode byte at the program counter, the bus's answer to the step's first read (R292). -/
def opcodeAt (s : State) : Byte := s.peek 0 s.pc

/-- The instruction at the program counter, from the bytes the bus answers now (R77, R91, R292): its operand bytes are the step's
second and third read, before any write (R73). Bytes past the instruction's length are not looked at. -/
def fetchInstr (s : State) : Instr := decodeBytes (opcodeAt s) (s.peek 1 (s.pc + 1#16)) (s.peek 2 (s.pc + 2#16))

/-- The bus read of Fetch (R292). The reads of operand bytes belong to the resolver (R73). -/
def fetchOpcode (s : State) : State := (memRead s.pc s).2

/-- `ILLEGAL_CYCLES(op)` (R274): the parameter where it lists the byte, the row's base cycles where it does not. -/
def illegalCycles (params : Params) (op : Byte) : Nat :=
  (params.illegalCycles.lookup op).getD (tableRow op).baseCycles

/-- `BaseCycles(e)` of R294, for the row of opcode byte `op`. -/
def baseCyclesOf (params : Params) (op : Byte) : Nat :=
  match (tableRow op).cls with
  | .documented => (tableRow op).baseCycles
  | .illegal => illegalCycles params op

/-- The number of cycles a condition charges. -/
def oneIf (b : Bool) : Nat := if b then 1 else 0

/-- `BranchCharge()` of R294. -/
def branchCharge (s : State) : Nat := oneIf s.pendingBranchCycle

/-- `OopsCharge(e)` of R295, for the row of opcode byte `op`. -/
def oopsCharge (op : Byte) (s : State) : Nat :=
  if s.pendingOopsCycle then
    match (tableRow op).penalty, s.params.oopsPolicy with
    | .branch, _ => branchCharge s
    | .read, _ => 1
    | .none, .readClass => 0
    | .none, .anyIndexed => 1
  else 0

/-- The Account phase (R294 to R296): the instruction's charge joins the step's total, and both penalty flags are cleared. -/
def account (op : Byte) (s : State) : State :=
  ((s.setStepCycles (s.stepCycles + baseCyclesOf s.params op + oopsCharge op s + branchCharge s)).setOops false).setBranch false

/-- `InterruptEntry(v)` of R327 for NMI and IRQ, with its 7 cycles (R329). -/
def enterInterrupt (v : Word) (s : State) : State :=
  let t := takeInterrupt v false s
  t.setStepCycles (t.stepCycles + 7)

/-- The InterruptCheck phase (R326): NMI before IRQ, IRQ only while I is clear, at most one. -/
def interruptCheck (s : State) : State :=
  if s.pendingNMI then (enterInterrupt nmiVector s).setNMI false
  else if s.pendingIRQ && !s.p.i then (enterInterrupt irqVector s).setIRQ false
  else s

/-- The counter update (R297). -/
def countCycles (s : State) : State := s.setCycleCount (s.cycleCount + s.stepCycles)

/-- The phases of a step after Execute, for the row of the opcode byte `op` that Fetch read (R290). -/
def finishStep (op : Byte) (s : State) : State := countCycles (interruptCheck (account op s))

/-- The phases of a step before Execute (R290). -/
def prepareStep (s : State) : State := fetchOpcode (beginStep s)

end Sys2Proof.Machine
end

