-- ==== Sys2Proof/Machine/Step.lean ====
section
/-! DEFINITION. `Step()` of R290, and the state with a given instruction where the next step fetches. -/

namespace Sys2Proof.Machine

/-- `Step()` (R290): DMA stall, Fetch, Execute, Account, InterruptCheck, counter update. -/
def step (s : State) : Host.Outcome State Fault Refusal :=
  match exec (fetchInstr s) (prepareStep s) with
  | .next t => .next (finishStep (opcodeAt s) t)
  | .fault r => .fault r
  | .refused r => .refused r

/-- `Step()` with the parameters of R7 as arguments: the bus, `OOPS_POLICY` and `ILLEGAL_CYCLES`. -/
def stepWith (b : Bus) (q : Params) (s : State) : Host.Outcome State Fault Refusal := step { s with bus := b, params := q }

/-- `s` with the instruction of the table word `w` of `nbits` bits stored at the program counter, its first byte at the lowest
address, addresses wrapping at 0xFFFF (R71, R91), and with the bus answering reads from the RAM. -/
def State.withFetchWord (s : State) (nbits w : Nat) : State :=
  (s.setBus { s.bus with answers := [] }).setMem
    (((s.mem.write s.pc (tableByte nbits w 0)).write (s.pc + 1#16) (tableByte nbits w 1)).write (s.pc + 2#16) (tableByte nbits w 2))

end Sys2Proof.Machine
end

