-- ==== Sys2Proof/Rules.lean ====
section
/-! DEFINITION. The rules of the spec as functions of the state before an instruction: what an operand's address, value, page
cross and bus reads are (spec/40_addressing_modes.md R121 to R135), what the bus answers and takes (R61, R62), and the flags of a
result (R40). They are written from the
rules a second time, without the resolvers and the flag operations that the machine runs, and the claims are stated in them. -/

namespace Sys2Proof.Rules

open Sys2Proof.Machine

/-- The byte that answers the `k`-th coming bus read, counted from 0, when that read is of `a` (R61, D11): what the bus gives, and
where it gives nothing the byte of the RAM (R75). -/
def answer (k : Nat) (a : Word) (s : State) : Byte :=
  match s.bus.answers[k]? with
  | some (some v) => v
  | _ => s.mem.read a

/-- The byte at `a` after the `k`-th coming bus write, counted from 0, has written `v` there (R62): `v`, unless the bus ignores that
write. -/
def kept (k : Nat) (a : Word) (v : Byte) (s : State) : Byte := if s.bus.ignored[k]? = some true then s.mem.read a else v

/-- The bus after `r` reads and `w` writes. -/
def spent (r w : Nat) (b : Bus) : Bus := { answers := b.answers.drop r, ignored := b.ignored.drop w }

/-- The bus and the memory behind it after the events of a log, when each read of the log has the byte the bus answers; nothing when
one has not (R61, R62, R75). -/
def exchange : Bus → Memory → List BusEvent → Option (Bus × Memory)
  | b, m, [] => some (b, m)
  | b, m, .read a v :: l =>
    if v = (match b.answers with | some u :: _ => u | _ => m.read a) then exchange (spent 1 0 b) m l else none
  | b, m, .write a v :: l =>
    exchange (spent 0 1 b) (match b.ignored with | true :: _ => m | _ => m.write a v) l

/-- The last byte that a write of the log left at `a`, when the writes listed as ignored left none (R62). -/
def written : List Bool → List BusEvent → Word → Option Byte
  | _, [], _ => none
  | g, .read _ _ :: l, a => written g l a
  | g, .write b v :: l, a =>
    match written (g.drop 1) l a with
    | some u => some u
    | none => if b = a ∧ g.head? ≠ some true then some v else none

/-- A little-endian word at `a`, by the `k`-th coming read and the one after it, the second address wrapping at 0xFFFF (R64, R66). -/
def wordAt (k : Nat) (a : Word) (s : State) : Word :=
  BitVec.ofNat 16 (256 * (answer (k + 1) (a + 1#16) s).toNat + (answer k a s).toNat)

/-- The pointer at the zero-page address `z`, by the `k`-th coming read and the one after it, its high byte from the next zero-page
address, which wraps at 0xFF (R67). -/
def zeroPagePointer (k : Nat) (z : Byte) (s : State) : Word :=
  BitVec.ofNat 16 (256 * (answer (k + 1) (BitVec.ofNat 16 ((z.toNat + 1) % 256)) s).toNat +
    (answer k (BitVec.ofNat 16 z.toNat) s).toNat)

/-- Where JMP Indirect reads the high byte of its target: "if the low byte of the pointer is 0xFF, the high byte of the target is
read from `pointer & 0xFF00` instead of `pointer+1`" (R68). -/
def targetHighAddress (p : Word) : Word := if p.toNat % 256 = 255 then p &&& 0xFF00#16 else p + 1#16

/-- The target of JMP Indirect, by the `k`-th coming read and the one after it (R68, R128). -/
def indirectTarget (k : Nat) (p : Word) (s : State) : Word :=
  BitVec.ofNat 16 (256 * (answer (k + 1) (targetHighAddress p) s).toNat + (answer k p s).toNat)

/-- The page of an address (R14). -/
def page (a : Word) : Nat := a.toNat / 256

/-- The bytes an operand's mode consumes, the opcode byte counted (R91). -/
def size (op : Operand) : Word :=
  match op with
  | .implicit | .accumulator => 1#16
  | .immediate _ | .relative _ | .zeroPage _ | .zeroPageX _ | .zeroPageY _ | .indexedIndirectX _ | .indirectIndexedY _ => 2#16
  | .absolute _ | .indirect _ | .absoluteX _ | .absoluteY _ => 3#16

/-- A signed offset (R92): a byte of 0x80 or more stands for itself less 256. -/
def signed (b : Byte) : Int := if b.toNat < 128 then b.toNat else (b.toNat : Int) - 256

/-- The target of a branch, from the address of the next instruction (R125). -/
def branchTarget (rel : Byte) (s : State) : Word := s.pc + 2#16 + BitVec.ofInt 16 (signed rel)

/-- The address a resolver returns, or no address (R120 to R134). The pointer bytes are the resolver's reads after those of the
operand bytes. -/
def address (op : Operand) (s : State) : Option Word :=
  match op with
  | .implicit => none
  | .accumulator => none
  | .immediate _ => some (s.pc + 1#16)
  | .relative rel => some (branchTarget rel s)
  | .absolute addr => some addr
  | .zeroPage zp => some (BitVec.ofNat 16 zp.toNat)
  | .indirect ptr => some (indirectTarget 2 ptr s)
  | .absoluteX base => some (BitVec.ofNat 16 (base.toNat + s.x.toNat))
  | .absoluteY base => some (BitVec.ofNat 16 (base.toNat + s.y.toNat))
  | .zeroPageX zp => some (BitVec.ofNat 16 ((zp.toNat + s.x.toNat) % 256))
  | .zeroPageY zp => some (BitVec.ofNat 16 ((zp.toNat + s.y.toNat) % 256))
  | .indexedIndirectX zp => some (zeroPagePointer 1 (zp + s.x) s)
  | .indirectIndexedY zp => some (BitVec.ofNat 16 ((zeroPagePointer 1 zp s).toNat + s.y.toNat))

/-- What a resolver answers (R120, R123, R124). -/
def place (op : Operand) (s : State) : Place :=
  match op with
  | .immediate imm => .literal (s.pc + 1#16) imm
  | _ =>
    match address op s with
    | none => .noAddress
    | some ea => .memory ea

/-- The page-cross condition of a mode (R121, R125, R129, R130, R134); every other mode never crosses. -/
def crosses (op : Operand) (s : State) : Bool :=
  match op with
  | .relative rel => page (branchTarget rel s) != page (s.pc + 2#16)
  | .absoluteX base => page (BitVec.ofNat 16 (base.toNat + s.x.toNat)) != page base
  | .absoluteY base => page (BitVec.ofNat 16 (base.toNat + s.y.toNat)) != page base
  | .indirectIndexedY zp =>
    page (BitVec.ofNat 16 ((zeroPagePointer 1 zp s).toNat + s.y.toNat)) != page (zeroPagePointer 1 zp s)
  | .implicit | .accumulator | .immediate _ | .absolute _ | .zeroPage _ | .indirect _ | .zeroPageX _ | .zeroPageY _
  | .indexedIndirectX _ => false

/-- The `k`-th coming bus read, of `a`. -/
def readEvent (k : Nat) (a : Word) (s : State) : BusEvent := .read a (answer k a s)

/-- The reads of the two pointer bytes at the zero-page address `z`, after the read of the operand byte (R67). -/
def pointerReads (z : Byte) (s : State) : List BusEvent :=
  [readEvent 1 (BitVec.ofNat 16 z.toNat) s, readEvent 2 (BitVec.ofNat 16 ((z.toNat + 1) % 256)) s]

/-- The reads of the two operand bytes of a word (R91, R126). -/
def wordReads (pc w : Word) : List BusEvent := [.read (pc + 1#16) (lowByte w), .read (pc + 2#16) (highByte w)]

/-- A resolver's bus reads, in order (R73, R122 to R134). -/
def resolverReads (op : Operand) (s : State) : List BusEvent :=
  match op with
  | .implicit | .accumulator | .immediate _ => []
  | .relative b | .zeroPage b | .zeroPageX b | .zeroPageY b => [.read (s.pc + 1#16) b]
  | .absolute w | .absoluteX w | .absoluteY w => wordReads s.pc w
  | .indirect ptr => wordReads s.pc ptr ++ [readEvent 2 ptr s, readEvent 3 (targetHighAddress ptr) s]
  | .indexedIndirectX zp => .read (s.pc + 1#16) zp :: pointerReads (zp + s.x) s
  | .indirectIndexedY zp => .read (s.pc + 1#16) zp :: pointerReads zp s

/-- How many bus reads a resolver makes (R122 to R134). -/
def readCount (op : Operand) : Nat :=
  match op with
  | .implicit | .accumulator | .immediate _ => 0
  | .relative _ | .zeroPage _ | .zeroPageX _ | .zeroPageY _ => 1
  | .absolute _ | .absoluteX _ | .absoluteY _ => 2
  | .indexedIndirectX _ | .indirectIndexedY _ => 3
  | .indirect _ => 4

/-- The state a resolver leaves (R120): the program counter past the instruction, the page-cross flag set if the mode crosses
and not cleared otherwise, the reads made, and nothing else. -/
def resolved (op : Operand) (s : State) : State :=
  { s with pc := s.pc + size op, pendingOopsCycle := s.pendingOopsCycle || crosses op s,
           busLog := s.busLog ++ resolverReads op s, bus := spent (readCount op) 0 s.bus }

/-- The value a handler reads (R135): the accumulator without an address, the operand byte for Immediate, otherwise what the bus
answers at the address, by the first read after the resolver's. -/
def operandByte (op : Operand) (s : State) : Byte :=
  match op with
  | .immediate imm => imm
  | _ =>
    match address op s with
    | none => s.a
    | some ea => answer (readCount op) ea s

/-- The handler's one read of its operand (R73, R135). -/
def operandReads (op : Operand) (s : State) : List BusEvent :=
  match address op s with
  | none => []
  | some ea => [.read ea (operandByte op s)]

/-- The state after the resolver and the read of the operand. -/
def afterRead (op : Operand) (s : State) : State :=
  { resolved op s with
    busLog := (resolved op s).busLog ++ operandReads op s
    bus := spent (readCount op + (operandReads op s).length) 0 s.bus }

/-- Z and N from a value (R40). -/
def withZN (v : Byte) (p : Flags) : Flags := { p with z := decide (v.toNat = 0), n := decide (128 ≤ v.toNat) }

/-- The byte of the stack page that is `k` below the one S addresses, with S wrapping (R24, R69). -/
def stackBelow (k : Nat) (s : State) : Word := 0x0100#16 + BitVec.ofNat 16 ((s.sp.toNat + 256 - k) % 256)

/-- The byte of the stack page that is `k` above the one S addresses, with S wrapping (R24, R70). -/
def stackAbove (k : Nat) (s : State) : Word := 0x0100#16 + BitVec.ofNat 16 ((s.sp.toNat + k) % 256)

/-- `P` as a number in the layout of R27, with the given values in the Break and Unused positions (R36). -/
def statusNumber (b u : Bool) (p : Flags) : Nat :=
  p.c.toNat + 2 * p.z.toNat + 4 * p.i.toNat + 8 * p.d.toNat + 16 * b.toNat + 32 * u.toNat + 64 * p.v.toNat + 128 * p.n.toNat

/-- Bit `k` of a byte. -/
def bit (k : Nat) (v : Byte) : Bool := decide (v.toNat / 2 ^ k % 2 = 1)

/-- The flags restored from a pulled byte (R37). -/
def restored (v : Byte) : Flags :=
  { c := bit 0 v, z := bit 1 v, i := bit 2 v, d := bit 3 v, b := false, u := true, v := bit 6 v, n := bit 7 v }

/-- The high byte of a word (R9). -/
def highOf (w : Word) : Byte := BitVec.ofNat 8 (w.toNat / 256)

/-- The low byte of a word (R9). -/
def lowOf (w : Word) : Byte := BitVec.ofNat 8 w.toNat

/-- The rows of a mnemonic in the dispatch table, in the order of the opcode byte: opcode byte, mode, base cycles and penalty class
(R94, R103). -/
def rowsOf (m : Mnemonic) : List (Byte × Mode × Nat × Penalty) :=
  (((List.range 256).map (BitVec.ofNat 8)).filter (fun b => decide ((tableRow b).mnemonic = m))).map
    (fun b => (b, (tableRow b).mode, (tableRow b).baseCycles, (tableRow b).penalty))

/-- The opcode bytes of the rows of a class, in rising order (R97). -/
def opcodesOf (c : RowClass) : List Byte :=
  ((List.range 256).map (BitVec.ofNat 8)).filter (fun b => decide ((tableRow b).cls = c))

/-- Memory `m` is that of `s` after the next bus write has written `v` at `a`: it differs at `a` at most, where it holds `v`, unless
the bus ignores that write (R62, R75). -/
def StoredAt (s : State) (a : Word) (v : Byte) (m : Memory) : Prop :=
  m.read a = kept 0 a v s ∧ ∀ b, b ≠ a → m.read b = s.mem.read b

/-- ASL doubles (R154). -/
def doubled (v : Byte) : Byte := BitVec.ofNat 8 (2 * v.toNat)

/-- LSR halves (R155). -/
def halved (v : Byte) : Byte := BitVec.ofNat 8 (v.toNat / 2)

/-- ROL doubles and adds the incoming carry (R156). -/
def doubledPlus (c : Bool) (v : Byte) : Byte := BitVec.ofNat 8 (2 * v.toNat + c.toNat)

/-- ROR halves and puts the incoming carry at 128 (R157). -/
def halvedPlus (c : Bool) (v : Byte) : Byte := BitVec.ofNat 8 (v.toNat / 2 + 128 * c.toNat)

/-- The intermediate sum of the adder, an integer of nine bits (R220). -/
def sum9 (a m : Byte) (c : Bool) : Nat := a.toNat + m.toNat + c.toNat

/-- The state after the adder took `m`, from the state `s` before the instruction and the state `t` after the read of the operand
(R220): C when the sum is above 0xFF, V by the sign-mismatch test on the accumulator before the instruction and the adder's operand,
A the low byte of the sum, Z and N from it. -/
def added (m : Byte) (s t : State) : State :=
  { t with
    a := BitVec.ofNat 8 (sum9 s.a m s.p.c)
    p := withZN (BitVec.ofNat 8 (sum9 s.a m s.p.c))
      { s.p with
        c := decide (0xFF < sum9 s.a m s.p.c)
        v := (~~~(s.a ^^^ m) &&& (s.a ^^^ BitVec.ofNat 8 (sum9 s.a m s.p.c)) &&& 0x80#8) != 0#8 } }

/-- The flags of a compare of `r` with `m` (R179): C when `r >= m`, Z and N from the 8-bit difference. -/
def compared (r m : Byte) (p : Flags) : Flags :=
  withZN (BitVec.ofNat 8 (r.toNat + 256 - m.toNat)) { p with c := decide (m.toNat ≤ r.toNat) }

/-- The state after a branch whose condition is `cond` (R170). -/
def branched (cond : Bool) (rel : Byte) (s : State) : State :=
  if cond then { resolved (.relative rel) s with pc := branchTarget rel s, pendingBranchCycle := true }
  else resolved (.relative rel) s

/-- The condition a branch mnemonic tests (R171 to R178); nothing for any other mnemonic. -/
def condition (m : Mnemonic) (p : Flags) : Option Bool :=
  match m with
  | .bpl => some (!p.n)
  | .bmi => some p.n
  | .bvc => some (!p.v)
  | .bvs => some p.v
  | .bcc => some (!p.c)
  | .bcs => some p.c
  | .bne => some (!p.z)
  | .beq => some p.z
  | _ => none

/-- The bytes an interrupt sequence pushes from `s` (R270, R327): the high and the low byte of the program counter and the status
byte with `brk` in the Break position and 1 in the Unused position, at S, S - 1 and S - 2 of the stack page, with S wrapping, by the
next three bus writes; every other byte of `m` is that of `s`. -/
def FramePushed (brk : Bool) (s : State) (m : Memory) : Prop :=
  m.read (stackBelow 0 s) = kept 0 (stackBelow 0 s) (highOf s.pc) s ∧
    m.read (stackBelow 1 s) = kept 1 (stackBelow 1 s) (lowOf s.pc) s ∧
    m.read (stackBelow 2 s) = kept 2 (stackBelow 2 s) (BitVec.ofNat 8 (statusNumber brk true s.p)) s ∧
    ∀ b, b ≠ stackBelow 0 s → b ≠ stackBelow 1 s → b ≠ stackBelow 2 s → m.read b = s.mem.read b

/-- The bus events of an interrupt sequence through the vector `v` (R270, R327). -/
def frameEvents (v : Word) (brk : Bool) (s : State) : List BusEvent :=
  [.write (stackBelow 0 s) (highOf s.pc), .write (stackBelow 1 s) (lowOf s.pc),
   .write (stackBelow 2 s) (BitVec.ofNat 8 (statusNumber brk true s.p)), readEvent 0 v s, readEvent 1 (v + 1#16) s]

/-- The state an interrupt sequence through the vector `v` leaves, with the memory `m` (R270, R327). -/
def entered (v : Word) (brk : Bool) (m : Memory) (s : State) : State :=
  { s with sp := s.sp - 3#8, p := { s.p with i := true }, pc := wordAt 0 v s, mem := m, bus := spent 2 3 s.bus,
           busLog := s.busLog ++ frameEvents v brk s }

/-- The base cycles of the instruction at the program counter (R274, R294): the row's, or for an illegal row the parameter
`ILLEGAL_CYCLES`, whose default is the row's. -/
def baseCharge (params : Params) (op : Byte) : Nat :=
  if (tableRow op).cls = .documented then (tableRow op).baseCycles
  else ((params.illegalCycles.find? (fun e => e.1 == op)).map (fun e => e.2)).getD (tableRow op).baseCycles

/-- The cycles of the instruction `i` run in the state `s` (R294, R295, R369): the base; one more where its mode crosses a page and
its row is charged for that; one more for a taken branch, and one more where that branch leaves its page. -/
def charge (i : Instr) (s : State) : Nat :=
  baseCharge s.params i.opcode +
    match condition i.mnemonic s.p with
    | some taken => if taken then (if crosses i.operand s then 2 else 1) else 0
    | none =>
      if crosses i.operand s then
        if (tableRow i.opcode).penalty = .read ∨ s.params.oopsPolicy = .anyIndexed then 1 else 0
      else 0

/-! ### Who writes and reads what -/

/-- The instructions that write A in every mode (R21). -/
def accumulatorWriters : List Mnemonic := [.lda, .pla, .txa, .tya, .and, .ora, .eor, .adc, .sbc]

/-- The instructions that read A in every mode (R21). -/
def accumulatorReaders : List Mnemonic := [.sta, .pha, .tax, .tay, .and, .ora, .eor, .adc, .sbc, .cmp, .bit]

/-- The shifts and rotates, which act on A in Accumulator mode (R21, R154 to R157). -/
def shifts : List Mnemonic := [.asl, .lsr, .rol, .ror]

/-- The instructions that write X (R22). -/
def xWriters : List Mnemonic := [.ldx, .tax, .tsx, .inx, .dex]

/-- The instructions that read X in every mode (R22). -/
def xReaders : List Mnemonic := [.stx, .txa, .txs, .cpx, .inx, .dex]

/-- The instructions that write Y (R23). -/
def yWriters : List Mnemonic := [.ldy, .tay, .iny, .dey]

/-- The instructions that read Y in every mode (R23). -/
def yReaders : List Mnemonic := [.sty, .tya, .cpy, .iny, .dey]

/-- The instructions that push or pull, each of which reads and writes S (R24). -/
def stackUsers : List Mnemonic := [.pha, .php, .pla, .plp, .jsr, .rts, .rti, .brk]

/-- The instructions that write C (R28). -/
def carryWriters : List Mnemonic := [.adc, .sbc, .cmp, .cpx, .cpy, .asl, .lsr, .rol, .ror, .clc, .sec, .plp, .rti]

/-- The instructions that read C, the pushes of P included (R28). -/
def carryReaders : List Mnemonic := [.adc, .sbc, .rol, .ror, .bcc, .bcs, .php, .brk]

/-- The instructions that write Z, which are those that write N (R29, R35). -/
def zeroNegativeWriters : List Mnemonic :=
  [.lda, .ldx, .ldy, .tax, .tay, .txa, .tya, .tsx, .pla, .and, .ora, .eor, .asl, .lsr, .rol,
   .ror, .inc, .dec, .inx, .iny, .dex, .dey, .adc, .sbc, .cmp, .cpx, .cpy, .bit, .plp, .rti]

/-- The instructions that read Z, the pushes of P included (R29). -/
def zeroReaders : List Mnemonic := [.bne, .beq, .php, .brk]

/-- The instructions that write I (R30). -/
def interruptDisableWriters : List Mnemonic := [.sei, .cli, .brk, .plp, .rti]

/-- The instructions that write D (R31). -/
def decimalWriters : List Mnemonic := [.sed, .cld, .plp, .rti]

/-- The instructions that push P (R36). -/
def statusPushers : List Mnemonic := [.php, .brk]

/-- The instructions that write the stored Break flag (R32). -/
def breakWriters : List Mnemonic := [.brk, .plp, .rti]

/-- The instructions that write the stored Unused flag (R33). -/
def unusedWriters : List Mnemonic := [.plp, .rti]

/-- The instructions that write V (R34). -/
def overflowWriters : List Mnemonic := [.adc, .sbc, .bit, .clv, .plp, .rti]

/-- The instructions that read V, the pushes of P included (R34). -/
def overflowReaders : List Mnemonic := [.bvc, .bvs, .php, .brk]

/-- The instructions that read N, the pushes of P included (R35). -/
def negativeReaders : List Mnemonic := [.bpl, .bmi, .php, .brk]

/-- The instructions that may write the byte at a resolved address (R154 to R157, R226 to R228, R240, R241). -/
def addressWriters : List Mnemonic := [.sta, .stx, .sty, .inc, .dec, .asl, .lsr, .rol, .ror]

/-- The instructions that push (R201, R252, R253, R270). -/
def pushers : List Mnemonic := [.pha, .php, .jsr, .brk]

end Sys2Proof.Rules
end

