-- ==== Sys2Proof/Machine/Inputs.lean ====
section
/-! DEFINITION. What the host may do between steps and nowhere else (spec/47_engine.md R300), beside calling the step and
`resetOp` (R360). -/

namespace Sys2Proof.Machine

/-- Raise NMI: once for each assertion of its source; raising it again while it is pending changes nothing (R323). -/
def raiseNMI (s : State) : State := s.setNMI true

/-- Raise or hold IRQ (R324). -/
def raiseIRQ (s : State) : State := s.setIRQ true

/-- Withdraw IRQ while its source is deasserted (R300). -/
def withdrawIRQ (s : State) : State := s.setIRQ false

/-- Set the DMA stall that the next step consumes (R45, R291). -/
def startDma (n : Nat) (s : State) : State := s.setDma n

/-- Change one byte of the memory behind the bus between steps (R74, R300): no event of the core. -/
def changeMemory (a : Word) (v : Byte) (s : State) : State := s.setMem (s.mem.write a v)

/-- Settle how the bus answers the coming reads (R300, "answers reads"). -/
def answerReads (l : List (Option Byte)) (s : State) : State := s.setBus { s.bus with answers := l }

/-- Settle which of the coming writes the RAM does not take (R300, "takes writes"). -/
def ignoreWrites (l : List Bool) (s : State) : State := s.setBus { s.bus with ignored := l }

/-- What the host does at one boundary. -/
inductive Input where
  | reset
  | raiseNMI
  | raiseIRQ
  | withdrawIRQ
  | startDma (n : Nat)
  | changeMemory (a : Word) (v : Byte)
  | answerReads (l : List (Option Byte))
  | ignoreWrites (l : List Bool)
  deriving DecidableEq, Repr

/-- The state after an input (R300). -/
def applyInput (e : Input) (s : State) : State :=
  match e with
  | .reset => resetOp s
  | .raiseNMI => Sys2Proof.Machine.raiseNMI s
  | .raiseIRQ => Sys2Proof.Machine.raiseIRQ s
  | .withdrawIRQ => Sys2Proof.Machine.withdrawIRQ s
  | .startDma n => Sys2Proof.Machine.startDma n s
  | .changeMemory a v => Sys2Proof.Machine.changeMemory a v s
  | .answerReads l => Sys2Proof.Machine.answerReads l s
  | .ignoreWrites l => Sys2Proof.Machine.ignoreWrites l s

end Sys2Proof.Machine
end

