-- ==== Sys2Proof/Safety.lean ====
section
/-! DEFINITION. What counts as a safe run, in the terms the claims use. -/

namespace Sys2Proof.Machine

/-- The invariant of R38 at every step boundary: Break is 0, Unused is 1, and no penalty flag is set. -/
def State.atBoundary (s : State) : Bool :=
  !s.p.b && s.p.u && !s.pendingBranchCycle && !s.pendingOopsCycle

/-- The invariant of the model: the boundary of R38, and memory in canonical form. -/
def State.inv (s : State) : Bool := s.atBoundary && s.mem.wf

/-- The states a host can bring about from `s`: steps, and inputs between them (R300, R301). -/
inductive Reaches (s : State) : State → Prop where
  | start : Reaches s s
  | input (e : Input) {t : State} (h : Reaches s t) : Reaches s (applyInput e t)
  | step {t u : State} (h : Reaches s t) (ht : Sys2Proof.Machine.step t = .next u) : Reaches s u

end Sys2Proof.Machine
end

