-- ==== Sys2Proof/WellFormed.lean ====
section
/-! DEFINITION. Well-formedness. The operands of `Instr` are typed by their widths (R91), so no field of an instruction can be
out of range; what is left to check is that an instruction agrees with the row of R103 that its opcode byte selects, and that
a byte string is exactly one instruction (R90). -/

namespace Sys2Proof

/-- The list has `n` bytes. -/
def hasLength : List Byte → Nat → Bool
  | [], 0 => true
  | [], _ + 1 => false
  | _ :: _, 0 => false
  | _ :: l, n + 1 => hasLength l n

/-- An instruction is well formed when the row of its opcode byte names its mnemonic, the mode of its operand and its length
(R94, R103). -/
def Instr.wellFormed (i : Instr) : Bool :=
  decide ((tableRow i.opcode).mnemonic = i.mnemonic) && decide ((tableRow i.opcode).mode = operandMode i.operand) &&
    hasLength (encode i) (tableRow i.opcode).size

/-- A byte string is one instruction: it has an opcode byte, and as many bytes after it as that byte calls for (R90, R91). -/
def bytesWellFormed : List Byte → Bool
  | [] => false
  | b0 :: rest => hasLength (b0 :: rest) (instructionSize b0)

end Sys2Proof
end

