-- ==== Sys2Proof/Certificates/Slice0/Obligations.lean ====
section
/-! DEFINITION. The statements for the provers, from the numbered rules of spec/. An effect is stated in the functions of
Sys2Proof/Rules.lean, written from the rules without the machine's own operations. A statement about exec names the whole next
state, so it says the result, the frame and that the instruction completes. A byte that a statement reads is what the bus answers,
Rules.answer, and a byte it writes stays in memory unless the bus ignores the write, Rules.kept (R61, R62, notes/assumptions/1.md). -/

section

open Sys2Proof Sys2Proof.Machine

/-- State.reset holds A, X and Y 0x00, S 0xFD, every flag 0 but Unused (P as a byte 0x20), both penalty flags and both
interrupt latches false, dmaCycles and cycleCount 0, PC the little-endian word that the bus answers at 0xFFFC, and the bus is
the RAM bus, the default of R7. The values of the latches, the penalty flags and the two counters are the spec's decisions D14
and D15; that the memory reads 0x00 everywhere (so that PC is 0x0000) is the model's choice, notes/assumptions/3.md and 4.md. -/
def Obligations.ResetHoldsTheSpecValues : Prop :=
  State.reset.a = 0x00#8 ∧ State.reset.x = 0x00#8 ∧ State.reset.y = 0x00#8 ∧ State.reset.sp = 0xFD#8 ∧
    State.reset.p = { c := false, z := false, i := false, d := false, b := false, u := true, v := false, n := false } ∧
    flagsByte State.reset.p = 0x20#8 ∧ State.reset.pendingBranchCycle = false ∧ State.reset.pendingOopsCycle = false ∧
    State.reset.pendingNMI = false ∧ State.reset.pendingIRQ = false ∧ State.reset.dmaCycles = 0 ∧ State.reset.cycleCount = 0 ∧
    State.reset.pc = Rules.wordAt 0 0xFFFC#16 State.reset ∧ State.reset.bus = Bus.ram

/-- From every state, the reset operation answers A, X and Y 0x00, S 0xFD, P 0x20, both penalty flags and both latches false,
dmaCycles and cycleCount 0, PC the word the bus answers at 0xFFFC, two bus reads, of 0xFFFC and then of 0xFFFD, and no write;
memory and the parameters are as before. The values of the latches, the penalty flags and the counters are the spec's
decisions D14 and D15, and the step total 0 is the model's own field (notes/assumptions/5.md). -/
def Obligations.ResetOperationFromAnyState : Prop :=
  ∀ s : State,
    resetOp s =
      { a := 0x00#8, x := 0x00#8, y := 0x00#8, sp := 0xFD#8, pc := Rules.wordAt 0 0xFFFC#16 s
        p := { c := false, z := false, i := false, d := false, b := false, u := true, v := false, n := false }
        pendingBranchCycle := false, pendingOopsCycle := false, pendingNMI := false, pendingIRQ := false
        dmaCycles := 0, cycleCount := 0, mem := s.mem, bus := Rules.spent 2 0 s.bus, stepCycles := 0
        busLog := [Rules.readEvent 0 0xFFFC#16 s, Rules.readEvent 1 0xFFFD#16 s], params := s.params }

/-- State.reset meets State.inv: Break 0, Unused 1, no penalty flag set, memory in canonical form. -/
def Obligations.ResetMeetsInvariant : Prop :=
  State.reset.inv = true

/-- From every state that meets State.inv (Break 0, Unused 1, no penalty flag set, memory in canonical form), the state a step
answers meets it. -/
def Obligations.EveryStepKeepsInvariant : Prop :=
  ∀ s t : State, s.inv = true → step s = .next t → t.inv = true

/-- At State.reset and after the reset operation from any state, Break is 0, Unused is 1 and both penalty flags are false, and
every step from such a state answers such a state; a step leaves both penalty flags false from any state whatever. -/
def Obligations.BoundaryFlagsHoldAtEveryBoundary : Prop :=
  State.reset.atBoundary = true ∧ (∀ s : State, (resetOp s).atBoundary = true) ∧
    (∀ s t : State, s.atBoundary = true → step s = .next t → t.atBoundary = true) ∧
    ∀ s t : State, step s = .next t → t.pendingBranchCycle = false ∧ t.pendingOopsCycle = false

/-- Every state that steps and host inputs (reset, raising or withdrawing an interrupt, a DMA stall, a change of memory, what
the bus answers and which writes it ignores) reach from a state that meets State.inv meets State.inv; State.reset is such a
state. -/
def Obligations.ReachableStatesMeetInvariant : Prop :=
  (∀ s t : State, s.inv = true → Reaches s t → t.inv = true) ∧ ∀ t : State, Reaches State.reset t → t.inv = true

/-- Two memories in canonical form that read the same byte at every address are the same list. -/
def Obligations.CanonicalMemoriesAreEqualData : Prop :=
  ∀ m n : Memory, m.wf = true → n.wf = true → (∀ a : Word, m.read a = n.read a) → m = n

/-- Every instruction, with every operand at every value, is well formed, and decoding its encoding followed by any bytes
gives the instruction and leaves exactly those bytes. -/
def Obligations.DecodeOfEncode : Prop :=
  ∀ (i : Instr) (rest : List Byte), i.wellFormed = true ∧ decode (encode i ++ rest) = .ok i rest

/-- Every byte string that is exactly one instruction decodes to an instruction, with no byte left, whose encoding is that
string. -/
def Obligations.EncodeOfDecode : Prop :=
  ∀ bytes : List Byte, bytesWellFormed bytes = true → ∃ i : Instr, decode bytes = .ok i [] ∧ encode i = bytes

/-- Any opcode byte with any two bytes after it and any rest decodes to an instruction with that opcode byte and the mnemonic
of the byte's row, and what is left is what follows the number of bytes that the opcode byte alone gives. No opcode byte is
rejected. -/
def Obligations.DecodingIsTotalOnOpcodeBytes : Prop :=
  ∀ (b0 b1 b2 : Byte) (rest : List Byte),
    ∃ i : Instr, decode (b0 :: b1 :: b2 :: rest) = .ok i ((b0 :: b1 :: b2 :: rest).drop (instructionSize b0)) ∧
      i.opcode = b0 ∧ i.mnemonic = (tableRow b0).mnemonic ∧ (1 ≤ instructionSize b0 ∧ instructionSize b0 ≤ 3)

/-- The words of LDA $1234, BNE with offset 0xF9, JMP ($30FF), STA ($20),Y, ROR A, BRK with padding 0xEA, PHP, ADC #$50, INC
$20FF,X and the illegal row 0xA7 with operand 0x10, written as numbers from the opcode map, decode to those instructions. -/
def Obligations.SampleWordsDecode : Prop :=
  decodeTableWord 24 0x1234AD = some (.ldaAbs 0x1234#16) ∧ decodeTableWord 16 0xF9D0 = some (.bne 0xF9#8) ∧
    decodeTableWord 24 0x30FF6C = some (.jmpInd 0x30FF#16) ∧ decodeTableWord 16 0x2091 = some (.staIzy 0x20#8) ∧
    decodeTableWord 8 0x6A = some .rorAcc ∧ decodeTableWord 16 0xEA00 = some (.brk 0xEA#8) ∧
    decodeTableWord 8 0x08 = some .php ∧ decodeTableWord 16 0x5069 = some (.adcImm 0x50#8) ∧
    decodeTableWord 24 0x20FFFE = some (.incAbx 0x20FF#16) ∧ decodeTableWord 16 0x10A7 = some (.illLaxA7 0x10#8)

/-- 151 opcode bytes have class documented and 105 have class illegal; the *KIL bytes are the twelve of R98, each Implicit
with two base cycles; a documented row never has an illegal label and an illegal row never a documented mnemonic. Which bytes
are illegal, their modes and the two cycles are the spec's decisions D2 and D3 (notes/assumptions/6.md, 7.md). -/
def Obligations.DocumentedAndIllegalRows : Prop :=
  (Rules.opcodesOf .documented).length = 151 ∧ (Rules.opcodesOf .illegal).length = 105 ∧
    (Rules.rowsOf .illKil).map (fun r => r.1) =
      [0x02#8, 0x12#8, 0x22#8, 0x32#8, 0x42#8, 0x52#8, 0x62#8, 0x72#8, 0x92#8, 0xB2#8, 0xD2#8, 0xF2#8] ∧
    (∀ r ∈ Rules.rowsOf .illKil, r.2.1 = .implicit ∧ r.2.2.1 = 2) ∧
    ∀ b c : Byte, (tableRow b).mnemonic = (tableRow c).mnemonic → (tableRow b).cls = (tableRow c).cls

/-- When the bytes that the bus answers at the program counter and the two addresses after it decode to a well-formed
instruction i, exec of i, in the state in which the DMA stall has become the step's total and the opcode read has been made,
answers a next state u, and the step answers u after Account for the row of i, the interrupt check and the counter update.
That the bus log and the step total are fields of the state is the model's (notes/assumptions/5.md). -/
def Obligations.StepRunsTheDecodedInstruction : Prop :=
  ∀ (s : State) (i : Instr) (rest : List Byte), i.wellFormed = true →
    decode [Rules.answer 0 s.pc s, Rules.answer 1 (s.pc + 1#16) s, Rules.answer 2 (s.pc + 2#16) s] = .ok i rest →
    ∃ u : State,
      exec i { s with
        stepCycles := s.dmaCycles, dmaCycles := 0, bus := Rules.spent 1 0 s.bus, busLog := [.read s.pc i.opcode] } = .next u ∧
      step s = .next (countCycles (interruptCheck (account i.opcode u)))

/-- From every state the step answers a next state: no opcode, data value, address or bus answer makes it fault or refuse. The
step made at least one and at most fifteen bus accesses (the fetch, at most four by the resolver, at most five by the handler,
at most five by an interrupt entry). -/
def Obligations.EveryStepAnswersANextState : Prop :=
  ∀ s : State, ∃ t : State, step s = .next t ∧ 1 ≤ t.busLog.length ∧ t.busLog.length ≤ 15

/-- From a state at a step boundary the step's total is the DMA stall plus the base cycles, the page-cross cycle where the row
is charged for it, the cycle of a taken branch and one more where it leaves its page, and 7 where NMI, or IRQ with I clear
after the instruction, is entered; cycleCount grows by the total and dmaCycles becomes 0. OOPS_POLICY and ILLEGAL_CYCLES are
any. That the stall is consumed whole is the spec's decision D13, the counter D14, the policy D4. -/
def Obligations.CyclesOfAStep : Prop :=
  ∀ s u : State, s.atBoundary = true → exec (fetchInstr s) (prepareStep s) = .next u →
    ∃ t : State, step s = .next t ∧
      t.stepCycles =
        s.dmaCycles + Rules.charge (fetchInstr s) { s with bus := Rules.spent 1 0 s.bus } +
          (if s.pendingNMI ∨ (s.pendingIRQ ∧ u.p.i = false) then 7 else 0) ∧
      t.cycleCount = s.cycleCount + t.stepCycles ∧ t.dmaCycles = 0

/-- A step with a DMA stall of n cycles answers the state that the same step without a stall answers, but for n more in the
step's total and in cycleCount (decision D13 of the spec). -/
def Obligations.DmaStallOnlyAddsCycles : Prop :=
  ∀ (s t : State) (n : Nat), step (startDma 0 s) = .next t →
    step (startDma n s) = .next { t with stepCycles := t.stepCycles + n, cycleCount := t.cycleCount + n }

/-- For every step, whichever instruction and interrupt entry it runs: at an address that its log shows no write to, but
ignored ones, memory is as before; at an address that it wrote, the RAM has the last byte written there, and an instruction
fetched there from the RAM has that byte as its opcode byte. STA Absolute logs such a write, to its own bytes too, and goes on
to the next instruction. That a byte not given by the bus is the RAM's is the default of decision D11
(notes/assumptions/1.md). -/
def Obligations.StoredBytesAreFetched : Prop :=
  (∀ (s t : State) (a : Word), step s = .next t →
      (Rules.written s.bus.ignored t.busLog a = none → t.mem.read a = s.mem.read a) ∧
      ∀ v : Byte, Rules.written s.bus.ignored t.busLog a = some v →
        t.mem.read a = v ∧
        ∀ u : State, u.mem = t.mem → u.pc = a → u.bus.answers = [] → (fetchInstr u).opcode = v) ∧
    ∀ (s : State) (addr : Word), fetchInstr s = .staAbs addr → s.pendingNMI = false → s.pendingIRQ = false →
      ∃ t : State, step s = .next t ∧ t.pc = s.pc + 3#16 ∧
        Rules.written s.bus.ignored t.busLog addr = if s.bus.ignored[0]? = some true then none else some s.a

/-- Absolute, Zero Page, and Absolute and Zero Page indexed by X or Y: the address, the program counter past the instruction
(wrapping), the page-cross flag set when the indexed sum leaves the base's page and otherwise as it was, one read of each
operand byte, low address first, and nothing else changed. -/
def Obligations.DirectAddressing : Prop :=
  ∀ (s : State) (w : Word) (z : Byte),
    resolve (.absolute w) s =
      (.memory w, { s with pc := s.pc + 3#16, bus := Rules.spent 2 0 s.bus, busLog := s.busLog ++ Rules.wordReads s.pc w }) ∧
    resolve (.zeroPage z) s =
      (.memory (BitVec.ofNat 16 z.toNat),
       { s with pc := s.pc + 2#16, bus := Rules.spent 1 0 s.bus, busLog := s.busLog ++ [.read (s.pc + 1#16) z] }) ∧
    resolve (.absoluteX w) s =
      (.memory (BitVec.ofNat 16 (w.toNat + s.x.toNat)),
       { s with pc := s.pc + 3#16, bus := Rules.spent 2 0 s.bus, busLog := s.busLog ++ Rules.wordReads s.pc w
                pendingOopsCycle := s.pendingOopsCycle ||
                  (Rules.page (BitVec.ofNat 16 (w.toNat + s.x.toNat)) != Rules.page w) }) ∧
    resolve (.absoluteY w) s =
      (.memory (BitVec.ofNat 16 (w.toNat + s.y.toNat)),
       { s with pc := s.pc + 3#16, bus := Rules.spent 2 0 s.bus, busLog := s.busLog ++ Rules.wordReads s.pc w
                pendingOopsCycle := s.pendingOopsCycle ||
                  (Rules.page (BitVec.ofNat 16 (w.toNat + s.y.toNat)) != Rules.page w) }) ∧
    resolve (.zeroPageX z) s =
      (.memory (BitVec.ofNat 16 ((z.toNat + s.x.toNat) % 256)),
       { s with pc := s.pc + 2#16, bus := Rules.spent 1 0 s.bus, busLog := s.busLog ++ [.read (s.pc + 1#16) z] }) ∧
    resolve (.zeroPageY z) s =
      (.memory (BitVec.ofNat 16 ((z.toNat + s.y.toNat) % 256)),
       { s with pc := s.pc + 2#16, bus := Rules.spent 1 0 s.bus, busLog := s.busLog ++ [.read (s.pc + 1#16) z] })

/-- Indirect reads its target's high byte from the start of the pointer's page when the pointer's low byte is 0xFF and from
the next address otherwise; (Indirect,X) and (Indirect),Y take both bytes of the pointer from page zero, with wraparound;
(Indirect),Y adds Y and sets the page-cross flag when the sum leaves the pointer's page. The wraparound of (Indirect),Y is the
spec's decision D6. -/
def Obligations.IndirectAddressing : Prop :=
  ∀ (s : State) (w : Word) (z : Byte),
    resolve (.indirect w) s =
      (.memory (Rules.indirectTarget 2 w s),
       { s with pc := s.pc + 3#16, bus := Rules.spent 4 0 s.bus
                busLog := s.busLog ++ Rules.wordReads s.pc w ++
                  [Rules.readEvent 2 w s, Rules.readEvent 3 (Rules.targetHighAddress w) s] }) ∧
    resolve (.indexedIndirectX z) s =
      (.memory (Rules.zeroPagePointer 1 (z + s.x) s),
       { s with pc := s.pc + 2#16, bus := Rules.spent 3 0 s.bus
                busLog := s.busLog ++ .read (s.pc + 1#16) z :: Rules.pointerReads (z + s.x) s }) ∧
    resolve (.indirectIndexedY z) s =
      (.memory (BitVec.ofNat 16 ((Rules.zeroPagePointer 1 z s).toNat + s.y.toNat)),
       { s with pc := s.pc + 2#16, bus := Rules.spent 3 0 s.bus
                busLog := s.busLog ++ .read (s.pc + 1#16) z :: Rules.pointerReads z s
                pendingOopsCycle := s.pendingOopsCycle ||
                  (Rules.page (BitVec.ofNat 16 ((Rules.zeroPagePointer 1 z s).toNat + s.y.toNat)) !=
                    Rules.page (Rules.zeroPagePointer 1 z s)) })

/-- In every addressing mode of their rows LDA, LDX and LDY answer the state in which A, X or Y holds the operand, Z and N are
from it, the program counter is past the instruction and the resolver's reads and one read of the operand were made, and
nothing else changed. Each has exactly the rows of its rule. -/
def Obligations.LoadsReachTheirRegister : Prop :=
  (∀ (i : Instr) (s : State), i.mnemonic = .lda →
      exec i s = .next { Rules.afterRead i.operand s with
        a := Rules.operandByte i.operand s
        p := Rules.withZN (Rules.operandByte i.operand s) s.p }) ∧
    (∀ (i : Instr) (s : State), i.mnemonic = .ldx →
      exec i s = .next { Rules.afterRead i.operand s with
        x := Rules.operandByte i.operand s
        p := Rules.withZN (Rules.operandByte i.operand s) s.p }) ∧
    (∀ (i : Instr) (s : State), i.mnemonic = .ldy →
      exec i s = .next { Rules.afterRead i.operand s with
        y := Rules.operandByte i.operand s
        p := Rules.withZN (Rules.operandByte i.operand s) s.p }) ∧
    Rules.rowsOf .lda =
      [(0xA1#8, .indexedIndirectX, 6, .none), (0xA5#8, .zeroPage, 3, .none), (0xA9#8, .immediate, 2, .none),
       (0xAD#8, .absolute, 4, .none), (0xB1#8, .indirectIndexedY, 5, .read), (0xB5#8, .zeroPageX, 4, .none),
       (0xB9#8, .absoluteY, 4, .read), (0xBD#8, .absoluteX, 4, .read)] ∧
    Rules.rowsOf .ldx =
      [(0xA2#8, .immediate, 2, .none), (0xA6#8, .zeroPage, 3, .none), (0xAE#8, .absolute, 4, .none),
       (0xB6#8, .zeroPageY, 4, .none), (0xBE#8, .absoluteY, 4, .read)] ∧
    Rules.rowsOf .ldy =
      [(0xA0#8, .immediate, 2, .none), (0xA4#8, .zeroPage, 3, .none), (0xAC#8, .absolute, 4, .none),
       (0xB4#8, .zeroPageX, 4, .none), (0xBC#8, .absoluteX, 4, .read)]

/-- In every addressing mode of their rows the resolver answers an address, and STA, STX and STY answer a state in which the
byte there is A, X or Y, unless the bus ignores the write, and every other byte of memory is as before; the program counter is
past the instruction, the resolver's reads and one write were made, and nothing else changed. Each has exactly the rows of its
rule. -/
def Obligations.StoresWriteTheirRegister : Prop :=
  (∀ (i : Instr) (s : State) (ea : Word), i.mnemonic = .sta → (resolve i.operand s).1 = .memory ea →
      ∃ m : Memory, Rules.StoredAt s ea s.a m ∧
        exec i s = .next { Rules.resolved i.operand s with
          mem := m, bus := Rules.spent (Rules.readCount i.operand) 1 s.bus
          busLog := (Rules.resolved i.operand s).busLog ++ [.write ea s.a] }) ∧
    (∀ (i : Instr) (s : State), i.mnemonic = .sta → ∃ ea : Word, (resolve i.operand s).1 = .memory ea) ∧
    (∀ (i : Instr) (s : State) (ea : Word), i.mnemonic = .stx → (resolve i.operand s).1 = .memory ea →
      ∃ m : Memory, Rules.StoredAt s ea s.x m ∧
        exec i s = .next { Rules.resolved i.operand s with
          mem := m, bus := Rules.spent (Rules.readCount i.operand) 1 s.bus
          busLog := (Rules.resolved i.operand s).busLog ++ [.write ea s.x] }) ∧
    (∀ (i : Instr) (s : State), i.mnemonic = .stx → ∃ ea : Word, (resolve i.operand s).1 = .memory ea) ∧
    (∀ (i : Instr) (s : State) (ea : Word), i.mnemonic = .sty → (resolve i.operand s).1 = .memory ea →
      ∃ m : Memory, Rules.StoredAt s ea s.y m ∧
        exec i s = .next { Rules.resolved i.operand s with
          mem := m, bus := Rules.spent (Rules.readCount i.operand) 1 s.bus
          busLog := (Rules.resolved i.operand s).busLog ++ [.write ea s.y] }) ∧
    (∀ (i : Instr) (s : State), i.mnemonic = .sty → ∃ ea : Word, (resolve i.operand s).1 = .memory ea) ∧
    Rules.rowsOf .sta =
      [(0x81#8, .indexedIndirectX, 6, .none), (0x85#8, .zeroPage, 3, .none), (0x8D#8, .absolute, 4, .none),
       (0x91#8, .indirectIndexedY, 6, .none), (0x95#8, .zeroPageX, 4, .none), (0x99#8, .absoluteY, 5, .none),
       (0x9D#8, .absoluteX, 5, .none)] ∧
    Rules.rowsOf .stx =
      [(0x86#8, .zeroPage, 3, .none), (0x8E#8, .absolute, 4, .none), (0x96#8, .zeroPageY, 4, .none)] ∧
    Rules.rowsOf .sty =
      [(0x84#8, .zeroPage, 3, .none), (0x8C#8, .absolute, 4, .none), (0x94#8, .zeroPageX, 4, .none)]

/-- In every addressing mode of their rows, AND, ORA and EOR answer the state in which A is the bitwise and, or, exclusive or
of A with the operand, Z and N are from the result, C and V are as before, the program counter is past the instruction and the
resolver's reads and one read of the operand were made, and nothing else changed. Each has exactly the rows of its rule. -/
def Obligations.AndOraEorCombineAccumulator : Prop :=
  (∀ (i : Instr) (s : State), i.mnemonic = .and →
      exec i s = .next { Rules.afterRead i.operand s with
        a := s.a &&& Rules.operandByte i.operand s
        p := Rules.withZN (s.a &&& Rules.operandByte i.operand s) s.p }) ∧
    (∀ (i : Instr) (s : State), i.mnemonic = .ora →
      exec i s = .next { Rules.afterRead i.operand s with
        a := s.a ||| Rules.operandByte i.operand s
        p := Rules.withZN (s.a ||| Rules.operandByte i.operand s) s.p }) ∧
    (∀ (i : Instr) (s : State), i.mnemonic = .eor →
      exec i s = .next { Rules.afterRead i.operand s with
        a := s.a ^^^ Rules.operandByte i.operand s
        p := Rules.withZN (s.a ^^^ Rules.operandByte i.operand s) s.p }) ∧
    Rules.rowsOf .and =
      [(0x21#8, .indexedIndirectX, 6, .none), (0x25#8, .zeroPage, 3, .none), (0x29#8, .immediate, 2, .none),
       (0x2D#8, .absolute, 4, .none), (0x31#8, .indirectIndexedY, 5, .read), (0x35#8, .zeroPageX, 4, .none),
       (0x39#8, .absoluteY, 4, .read), (0x3D#8, .absoluteX, 4, .read)] ∧
    Rules.rowsOf .ora =
      [(0x01#8, .indexedIndirectX, 6, .none), (0x05#8, .zeroPage, 3, .none), (0x09#8, .immediate, 2, .none),
       (0x0D#8, .absolute, 4, .none), (0x11#8, .indirectIndexedY, 5, .read), (0x15#8, .zeroPageX, 4, .none),
       (0x19#8, .absoluteY, 4, .read), (0x1D#8, .absoluteX, 4, .read)] ∧
    Rules.rowsOf .eor =
      [(0x41#8, .indexedIndirectX, 6, .none), (0x45#8, .zeroPage, 3, .none), (0x49#8, .immediate, 2, .none),
       (0x4D#8, .absolute, 4, .none), (0x51#8, .indirectIndexedY, 5, .read), (0x55#8, .zeroPageX, 4, .none),
       (0x59#8, .absoluteY, 4, .read), (0x5D#8, .absoluteX, 4, .read)]

/-- In every mode of their rows ASL and LSR double (modulo 256) or halve the accumulator, or the byte the bus answers at the
resolver's address, with C the bit shifted out and Z and N from the result. A memory form makes the resolver's reads, one read
and one write of that address (the byte stays where the bus ignores the write), and every other byte of memory is as before;
the Accumulator form makes no bus access. Nothing else changes. Each has exactly the rows of its rule. -/
def Obligations.AslLsrShiftOneBit : Prop :=
  (∀ (i : Instr) (s : State), i.mnemonic = .asl →
      match (resolve i.operand s).1 with
      | .noAddress => exec i s = .next { s with
          pc := s.pc + 1#16, a := Rules.doubled s.a
          p := Rules.withZN (Rules.doubled s.a) { s.p with c := Rules.bit 7 s.a } }
      | .literal _ _ => False
      | .memory ea => ∃ m : Memory, Rules.StoredAt s ea (Rules.doubled (Rules.answer (Rules.readCount i.operand) ea s)) m ∧
          exec i s = .next { Rules.afterRead i.operand s with
            mem := m
            p := Rules.withZN (Rules.doubled (Rules.answer (Rules.readCount i.operand) ea s))
              { s.p with c := Rules.bit 7 (Rules.answer (Rules.readCount i.operand) ea s) }
            bus := Rules.spent (Rules.readCount i.operand + 1) 1 s.bus
            busLog := (Rules.afterRead i.operand s).busLog ++
                [.write ea (Rules.doubled (Rules.answer (Rules.readCount i.operand) ea s))] }) ∧
    (∀ (i : Instr) (s : State), i.mnemonic = .lsr →
      match (resolve i.operand s).1 with
      | .noAddress => exec i s = .next { s with
          pc := s.pc + 1#16, a := Rules.halved s.a
          p := Rules.withZN (Rules.halved s.a) { s.p with c := Rules.bit 0 s.a } }
      | .literal _ _ => False
      | .memory ea => ∃ m : Memory, Rules.StoredAt s ea (Rules.halved (Rules.answer (Rules.readCount i.operand) ea s)) m ∧
          exec i s = .next { Rules.afterRead i.operand s with
            mem := m
            p := Rules.withZN (Rules.halved (Rules.answer (Rules.readCount i.operand) ea s))
              { s.p with c := Rules.bit 0 (Rules.answer (Rules.readCount i.operand) ea s) }
            bus := Rules.spent (Rules.readCount i.operand + 1) 1 s.bus
            busLog := (Rules.afterRead i.operand s).busLog ++
                [.write ea (Rules.halved (Rules.answer (Rules.readCount i.operand) ea s))] }) ∧
    Rules.rowsOf .asl =
      [(0x06#8, .zeroPage, 5, .none), (0x0A#8, .accumulator, 2, .none), (0x0E#8, .absolute, 6, .none),
       (0x16#8, .zeroPageX, 6, .none), (0x1E#8, .absoluteX, 7, .none)] ∧
    Rules.rowsOf .lsr =
      [(0x46#8, .zeroPage, 5, .none), (0x4A#8, .accumulator, 2, .none), (0x4E#8, .absolute, 6, .none),
       (0x56#8, .zeroPageX, 6, .none), (0x5E#8, .absoluteX, 7, .none)]

/-- In every mode of their rows ROL and ROR rotate the accumulator, or the byte the bus answers at the resolver's address, by
one bit through C: the C from before comes in, the bit shifted out becomes C, Z and N are from the result. A memory form makes
the resolver's reads, one read and one write of that address (the byte stays where the bus ignores the write), and every other
byte of memory is as before; the Accumulator form makes no bus access. Nothing else changes. Each has exactly the rows of its
rule. -/
def Obligations.RolRorRotateThroughCarry : Prop :=
  (∀ (i : Instr) (s : State), i.mnemonic = .rol →
      match (resolve i.operand s).1 with
      | .noAddress => exec i s = .next { s with
          pc := s.pc + 1#16, a := Rules.doubledPlus s.p.c s.a
          p := Rules.withZN (Rules.doubledPlus s.p.c s.a) { s.p with c := Rules.bit 7 s.a } }
      | .literal _ _ => False
      | .memory ea => ∃ m : Memory,
          Rules.StoredAt s ea (Rules.doubledPlus s.p.c (Rules.answer (Rules.readCount i.operand) ea s)) m ∧
          exec i s = .next { Rules.afterRead i.operand s with
            mem := m
            p := Rules.withZN (Rules.doubledPlus s.p.c (Rules.answer (Rules.readCount i.operand) ea s))
              { s.p with c := Rules.bit 7 (Rules.answer (Rules.readCount i.operand) ea s) }
            bus := Rules.spent (Rules.readCount i.operand + 1) 1 s.bus
            busLog := (Rules.afterRead i.operand s).busLog ++
                [.write ea (Rules.doubledPlus s.p.c (Rules.answer (Rules.readCount i.operand) ea s))] }) ∧
    (∀ (i : Instr) (s : State), i.mnemonic = .ror →
      match (resolve i.operand s).1 with
      | .noAddress => exec i s = .next { s with
          pc := s.pc + 1#16, a := Rules.halvedPlus s.p.c s.a
          p := Rules.withZN (Rules.halvedPlus s.p.c s.a) { s.p with c := Rules.bit 0 s.a } }
      | .literal _ _ => False
      | .memory ea => ∃ m : Memory,
          Rules.StoredAt s ea (Rules.halvedPlus s.p.c (Rules.answer (Rules.readCount i.operand) ea s)) m ∧
          exec i s = .next { Rules.afterRead i.operand s with
            mem := m
            p := Rules.withZN (Rules.halvedPlus s.p.c (Rules.answer (Rules.readCount i.operand) ea s))
              { s.p with c := Rules.bit 0 (Rules.answer (Rules.readCount i.operand) ea s) }
            bus := Rules.spent (Rules.readCount i.operand + 1) 1 s.bus
            busLog := (Rules.afterRead i.operand s).busLog ++
                [.write ea (Rules.halvedPlus s.p.c (Rules.answer (Rules.readCount i.operand) ea s))] }) ∧
    Rules.rowsOf .rol =
      [(0x26#8, .zeroPage, 5, .none), (0x2A#8, .accumulator, 2, .none), (0x2E#8, .absolute, 6, .none),
       (0x36#8, .zeroPageX, 6, .none), (0x3E#8, .absoluteX, 7, .none)] ∧
    Rules.rowsOf .ror =
      [(0x66#8, .zeroPage, 5, .none), (0x6A#8, .accumulator, 2, .none), (0x6E#8, .absolute, 6, .none),
       (0x76#8, .zeroPageX, 6, .none), (0x7E#8, .absoluteX, 7, .none)]

/-- In every addressing mode of its rows ADC answers the state in which A is the low byte of A + operand + C, C is set when
that sum is above 0xFF, V by the sign-mismatch test on the accumulator before and the operand, Z and N from the new A; D is
not read; the program counter is past the instruction, the resolver's reads and one read of the operand were made, and nothing
else changed. ADC has exactly the rows of the rule. -/
def Obligations.AdcAddsWithCarry : Prop :=
  (∀ (i : Instr) (s : State), i.mnemonic = .adc →
      exec i s = .next (Rules.added (Rules.operandByte i.operand s) s (Rules.afterRead i.operand s))) ∧
    Rules.rowsOf .adc =
      [(0x61#8, .indexedIndirectX, 6, .none), (0x65#8, .zeroPage, 3, .none), (0x69#8, .immediate, 2, .none),
       (0x6D#8, .absolute, 4, .none), (0x71#8, .indirectIndexedY, 5, .read), (0x75#8, .zeroPageX, 4, .none),
       (0x79#8, .absoluteY, 4, .read), (0x7D#8, .absoluteX, 4, .read)]

/-- In every addressing mode of its rows SBC answers the state that the adder of R220 gives for 255 minus the operand; the
program counter is past the instruction, the resolver's reads and one read of the operand were made, and nothing else changed.
SBC has exactly the rows of its rule. That V, too, is computed from the complement is the spec's decision D7. -/
def Obligations.SbcAddsTheComplement : Prop :=
  (∀ (i : Instr) (s : State), i.mnemonic = .sbc →
      exec i s = .next
        (Rules.added (BitVec.ofNat 8 (255 - (Rules.operandByte i.operand s).toNat)) s (Rules.afterRead i.operand s))) ∧
    Rules.rowsOf .sbc =
      [(0xE1#8, .indexedIndirectX, 6, .none), (0xE5#8, .zeroPage, 3, .none), (0xE9#8, .immediate, 2, .none),
       (0xED#8, .absolute, 4, .none), (0xF1#8, .indirectIndexedY, 5, .read), (0xF5#8, .zeroPageX, 4, .none),
       (0xF9#8, .absoluteY, 4, .read), (0xFD#8, .absoluteX, 4, .read)]

/-- After ADC the new C says that A + operand + C was at least 256 and the new V that the sum of the signed values was outside
-128 to 127; after SBC the new C says that A - operand - (1 - C) was not negative and the new V that the difference of the
signed values, less the borrow, was outside -128 to 127. The rule states V of ADC as a derived remark and V of SBC by decision
D7. -/
def Obligations.CarryAndOverflowOfArithmetic : Prop :=
  (∀ (i : Instr) (s t : State), i.mnemonic = .adc → exec i s = .next t →
      (t.p.c = true ↔ 256 ≤ s.a.toNat + (Rules.operandByte i.operand s).toNat + s.p.c.toNat) ∧
      (t.p.v = true ↔ ¬ (-128 ≤ Rules.signed s.a + Rules.signed (Rules.operandByte i.operand s) + s.p.c.toNat ∧
        Rules.signed s.a + Rules.signed (Rules.operandByte i.operand s) + s.p.c.toNat ≤ 127))) ∧
    ∀ (i : Instr) (s t : State), i.mnemonic = .sbc → exec i s = .next t →
      (t.p.c = true ↔ 0 ≤ (s.a.toNat : Int) - (Rules.operandByte i.operand s).toNat - (1 - (s.p.c.toNat : Int))) ∧
      (t.p.v = true ↔ ¬ (-128 ≤ Rules.signed s.a - Rules.signed (Rules.operandByte i.operand s) - (1 - (s.p.c.toNat : Int)) ∧
        Rules.signed s.a - Rules.signed (Rules.operandByte i.operand s) - (1 - (s.p.c.toNat : Int)) ≤ 127))

/-- In every addressing mode of their rows CMP, CPX and CPY set C when A, X or Y is at least the operand as unsigned numbers,
Z and N from the 8-bit difference, and leave V, the registers and memory alone; the program counter is past the instruction
and the resolver's reads and one read of the operand were made. Each has exactly the rows of its rule. -/
def Obligations.ComparesSetFlagsOnly : Prop :=
  (∀ (i : Instr) (s : State), i.mnemonic = .cmp →
      exec i s = .next { Rules.afterRead i.operand s with
        p := Rules.compared s.a (Rules.operandByte i.operand s) s.p }) ∧
    (∀ (i : Instr) (s : State), i.mnemonic = .cpx →
      exec i s = .next { Rules.afterRead i.operand s with
        p := Rules.compared s.x (Rules.operandByte i.operand s) s.p }) ∧
    (∀ (i : Instr) (s : State), i.mnemonic = .cpy →
      exec i s = .next { Rules.afterRead i.operand s with
        p := Rules.compared s.y (Rules.operandByte i.operand s) s.p }) ∧
    Rules.rowsOf .cmp =
      [(0xC1#8, .indexedIndirectX, 6, .none), (0xC5#8, .zeroPage, 3, .none), (0xC9#8, .immediate, 2, .none),
       (0xCD#8, .absolute, 4, .none), (0xD1#8, .indirectIndexedY, 5, .read), (0xD5#8, .zeroPageX, 4, .none),
       (0xD9#8, .absoluteY, 4, .read), (0xDD#8, .absoluteX, 4, .read)] ∧
    Rules.rowsOf .cpx =
      [(0xE0#8, .immediate, 2, .none), (0xE4#8, .zeroPage, 3, .none), (0xEC#8, .absolute, 4, .none)] ∧
    Rules.rowsOf .cpy =
      [(0xC0#8, .immediate, 2, .none), (0xC4#8, .zeroPage, 3, .none), (0xCC#8, .absolute, 4, .none)]

/-- In both modes of its rows BIT sets V to bit 6 and N to bit 7 of the operand and Z when the operand and A have no bit in
common; A, C and every other field are unchanged but for the program counter and the reads made. BIT has exactly the rows of
the rule. -/
def Obligations.BitTestsTheOperand : Prop :=
  (∀ (i : Instr) (s : State), i.mnemonic = .bit →
      exec i s = .next { Rules.afterRead i.operand s with
        p := { s.p with
          v := Rules.bit 6 (Rules.operandByte i.operand s), n := Rules.bit 7 (Rules.operandByte i.operand s)
          z := decide ((Rules.operandByte i.operand s &&& s.a).toNat = 0) } }) ∧
    Rules.rowsOf .bit =
      [(0x24#8, .zeroPage, 3, .none), (0x2C#8, .absolute, 4, .none)]

/-- CLC, CLD, CLI and CLV clear, and SEC, SED and SEI set, the one flag each names; the program counter advances by one and
nothing else changes; each is one byte, two cycles. Which flag a mnemonic names the spec takes from general knowledge
(93_implementation_defined.md B14). -/
def Obligations.FlagInstructionsChangeOneFlag : Prop :=
  (∀ s : State,
      exec .clc s = .next { s with pc := s.pc + 1#16, p := { s.p with c := false } } ∧
      exec .cld s = .next { s with pc := s.pc + 1#16, p := { s.p with d := false } } ∧
      exec .cli s = .next { s with pc := s.pc + 1#16, p := { s.p with i := false } } ∧
      exec .clv s = .next { s with pc := s.pc + 1#16, p := { s.p with v := false } } ∧
      exec .sec s = .next { s with pc := s.pc + 1#16, p := { s.p with c := true } } ∧
      exec .sed s = .next { s with pc := s.pc + 1#16, p := { s.p with d := true } } ∧
      exec .sei s = .next { s with pc := s.pc + 1#16, p := { s.p with i := true } }) ∧
    Rules.rowsOf .clc = [(0x18#8, .implicit, 2, .none)] ∧
    Rules.rowsOf .cld = [(0xD8#8, .implicit, 2, .none)] ∧
    Rules.rowsOf .cli = [(0x58#8, .implicit, 2, .none)] ∧
    Rules.rowsOf .clv = [(0xB8#8, .implicit, 2, .none)] ∧
    Rules.rowsOf .sec = [(0x38#8, .implicit, 2, .none)] ∧
    Rules.rowsOf .sed = [(0xF8#8, .implicit, 2, .none)] ∧
    Rules.rowsOf .sei = [(0x78#8, .implicit, 2, .none)]

/-- Each transfer copies its source to its destination and advances the program counter by one; all but TXS set Z and N from
the value; nothing else changes and no bus access is made. Each is one byte, two cycles. -/
def Obligations.TransfersCopyRegisters : Prop :=
  (∀ s : State,
      exec .tax s = .next { s with pc := s.pc + 1#16, x := s.a, p := Rules.withZN s.a s.p } ∧
      exec .tay s = .next { s with pc := s.pc + 1#16, y := s.a, p := Rules.withZN s.a s.p } ∧
      exec .txa s = .next { s with pc := s.pc + 1#16, a := s.x, p := Rules.withZN s.x s.p } ∧
      exec .tya s = .next { s with pc := s.pc + 1#16, a := s.y, p := Rules.withZN s.y s.p } ∧
      exec .tsx s = .next { s with pc := s.pc + 1#16, x := s.sp, p := Rules.withZN s.sp s.p } ∧
      exec .txs s = .next { s with pc := s.pc + 1#16, sp := s.x }) ∧
    Rules.rowsOf .tax = [(0xAA#8, .implicit, 2, .none)] ∧
    Rules.rowsOf .tay = [(0xA8#8, .implicit, 2, .none)] ∧
    Rules.rowsOf .txa = [(0x8A#8, .implicit, 2, .none)] ∧
    Rules.rowsOf .tya = [(0x98#8, .implicit, 2, .none)] ∧
    Rules.rowsOf .tsx = [(0xBA#8, .implicit, 2, .none)] ∧
    Rules.rowsOf .txs = [(0x9A#8, .implicit, 2, .none)]

/-- INX, INY, DEX and DEY add one to or subtract one from X or Y modulo 256, set Z and N from the result, advance the program
counter by one, and change nothing else; no bus access is made. Each is one byte, two cycles. -/
def Obligations.IndexRegistersCountAndWrap : Prop :=
  (∀ s : State,
      exec .inx s = .next { s with
        pc := s.pc + 1#16
        x := BitVec.ofNat 8 (s.x.toNat + 1)
        p := Rules.withZN (BitVec.ofNat 8 (s.x.toNat + 1)) s.p } ∧
      exec .iny s = .next { s with
        pc := s.pc + 1#16
        y := BitVec.ofNat 8 (s.y.toNat + 1)
        p := Rules.withZN (BitVec.ofNat 8 (s.y.toNat + 1)) s.p } ∧
      exec .dex s = .next { s with
        pc := s.pc + 1#16
        x := BitVec.ofNat 8 (s.x.toNat + 255)
        p := Rules.withZN (BitVec.ofNat 8 (s.x.toNat + 255)) s.p } ∧
      exec .dey s = .next { s with
        pc := s.pc + 1#16
        y := BitVec.ofNat 8 (s.y.toNat + 255)
        p := Rules.withZN (BitVec.ofNat 8 (s.y.toNat + 255)) s.p }) ∧
    Rules.rowsOf .inx = [(0xE8#8, .implicit, 2, .none)] ∧
    Rules.rowsOf .iny = [(0xC8#8, .implicit, 2, .none)] ∧
    Rules.rowsOf .dex = [(0xCA#8, .implicit, 2, .none)] ∧
    Rules.rowsOf .dey = [(0x88#8, .implicit, 2, .none)]

/-- In every mode of their rows INC and DEC write, at the address the resolver answers, the byte the bus answers there plus or
minus one modulo 256 (the byte stays where the bus ignores the write), set Z and N from the result, and leave every other byte
of memory, C, V and the registers as they were; the bus accesses are the resolver's reads, one read and one write of that
address. Each has exactly the rows of its rule. -/
def Obligations.IncAndDecChangeOneByte : Prop :=
  (∀ (i : Instr) (s : State) (ea : Word), i.mnemonic = .inc → (resolve i.operand s).1 = .memory ea →
      ∃ m : Memory, Rules.StoredAt s ea (BitVec.ofNat 8 ((Rules.answer (Rules.readCount i.operand) ea s).toNat + 1)) m ∧
        exec i s = .next { Rules.afterRead i.operand s with
          mem := m, p := Rules.withZN (BitVec.ofNat 8 ((Rules.answer (Rules.readCount i.operand) ea s).toNat + 1)) s.p,
              bus := Rules.spent (Rules.readCount i.operand + 1) 1 s.bus
          busLog := (Rules.afterRead i.operand s).busLog ++
              [.write ea (BitVec.ofNat 8 ((Rules.answer (Rules.readCount i.operand) ea s).toNat + 1))] }) ∧
    (∀ (i : Instr) (s : State), i.mnemonic = .inc → ∃ ea : Word, (resolve i.operand s).1 = .memory ea) ∧
    (∀ (i : Instr) (s : State) (ea : Word), i.mnemonic = .dec → (resolve i.operand s).1 = .memory ea →
      ∃ m : Memory, Rules.StoredAt s ea (BitVec.ofNat 8 ((Rules.answer (Rules.readCount i.operand) ea s).toNat + 255)) m ∧
        exec i s = .next { Rules.afterRead i.operand s with
          mem := m, p := Rules.withZN (BitVec.ofNat 8 ((Rules.answer (Rules.readCount i.operand) ea s).toNat + 255)) s.p,
              bus := Rules.spent (Rules.readCount i.operand + 1) 1 s.bus
          busLog := (Rules.afterRead i.operand s).busLog ++
              [.write ea (BitVec.ofNat 8 ((Rules.answer (Rules.readCount i.operand) ea s).toNat + 255))] }) ∧
    (∀ (i : Instr) (s : State), i.mnemonic = .dec → ∃ ea : Word, (resolve i.operand s).1 = .memory ea) ∧
    Rules.rowsOf .inc =
      [(0xE6#8, .zeroPage, 5, .none), (0xEE#8, .absolute, 6, .none), (0xF6#8, .zeroPageX, 6, .none),
       (0xFE#8, .absoluteX, 7, .none)] ∧
    Rules.rowsOf .dec =
      [(0xC6#8, .zeroPage, 5, .none), (0xCE#8, .absolute, 6, .none), (0xD6#8, .zeroPageX, 6, .none),
       (0xDE#8, .absoluteX, 7, .none)]

/-- Each of the eight branches, on the flag and value of its rule, sets the program counter to the address of the next
instruction plus the signed offset (modulo 65536) and the branch-taken flag; otherwise the program counter is that of the next
instruction. Either way the offset byte is read once, the page-cross flag is set when the target's page is not that of the
next instruction, and nothing else changes. Each is a two-byte row of two cycles. The flag each tests the spec takes from
general knowledge (B13), and the page compared with is decision D5. -/
def Obligations.BranchesGoToTheTargetWhenTaken : Prop :=
  (∀ (rel : Byte) (s : State),
      exec (.bpl rel) s = .next (Rules.branched (!s.p.n) rel s) ∧
      exec (.bmi rel) s = .next (Rules.branched (s.p.n) rel s) ∧
      exec (.bvc rel) s = .next (Rules.branched (!s.p.v) rel s) ∧
      exec (.bvs rel) s = .next (Rules.branched (s.p.v) rel s) ∧
      exec (.bcc rel) s = .next (Rules.branched (!s.p.c) rel s) ∧
      exec (.bcs rel) s = .next (Rules.branched (s.p.c) rel s) ∧
      exec (.bne rel) s = .next (Rules.branched (!s.p.z) rel s) ∧
      exec (.beq rel) s = .next (Rules.branched (s.p.z) rel s)) ∧
    Rules.rowsOf .bpl = [(0x10#8, .relative, 2, .branch)] ∧
    Rules.rowsOf .bmi = [(0x30#8, .relative, 2, .branch)] ∧
    Rules.rowsOf .bvc = [(0x50#8, .relative, 2, .branch)] ∧
    Rules.rowsOf .bvs = [(0x70#8, .relative, 2, .branch)] ∧
    Rules.rowsOf .bcc = [(0x90#8, .relative, 2, .branch)] ∧
    Rules.rowsOf .bcs = [(0xB0#8, .relative, 2, .branch)] ∧
    Rules.rowsOf .bne = [(0xD0#8, .relative, 2, .branch)] ∧
    Rules.rowsOf .beq = [(0xF0#8, .relative, 2, .branch)]

/-- JMP Absolute sets the program counter to its operand after the two operand reads; JMP Indirect to the word whose low byte
the bus answers at the pointer and whose high byte at the next address, or at the start of the same page when the pointer's
low byte is 0xFF, after the two operand reads and the two pointer reads. Nothing else changes. JMP has exactly the two rows of
the rule. -/
def Obligations.JmpSetsTheProgramCounter : Prop :=
  (∀ (addr : Word) (s : State),
      exec (.jmpAbs addr) s = .next { s with
        pc := addr, bus := Rules.spent 2 0 s.bus, busLog := s.busLog ++ Rules.wordReads s.pc addr }) ∧
    (∀ (ptr : Word) (s : State),
      exec (.jmpInd ptr) s = .next { s with
        pc := BitVec.ofNat 16
          (256 * (Rules.answer 3 (if ptr.toNat % 256 = 255 then ptr - 255#16 else ptr + 1#16) s).toNat +
            (Rules.answer 2 ptr s).toNat)
        bus := Rules.spent 4 0 s.bus
        busLog := s.busLog ++ Rules.wordReads s.pc ptr ++
          [Rules.readEvent 2 ptr s,
           Rules.readEvent 3 (if ptr.toNat % 256 = 255 then ptr - 255#16 else ptr + 1#16) s] }) ∧
    Rules.rowsOf .jmp =
      [(0x4C#8, .absolute, 3, .none), (0x6C#8, .indirect, 5, .none)]

/-- JSR reads its two operand bytes, writes the high byte of the address of its own last byte at S of the stack page and the
low byte at S - 1, with S wrapping, leaves S lower by two and the program counter at its operand; a byte whose write the bus
ignores stays, and every other byte of memory and every other field is as before. Its one row is 0x20, six cycles. -/
def Obligations.JsrPushesTheLastByteAddress : Prop :=
  (∀ (addr : Word) (s : State), ∃ m : Memory,
      exec (.jsr addr) s = .next { s with
        pc := addr, sp := s.sp - 2#8, mem := m, bus := Rules.spent 2 2 s.bus
        busLog := s.busLog ++ Rules.wordReads s.pc addr ++
          [.write (Rules.stackBelow 0 s) (Rules.highOf (s.pc + 2#16)),
           .write (Rules.stackBelow 1 s) (Rules.lowOf (s.pc + 2#16))] } ∧
      m.read (Rules.stackBelow 0 s) = Rules.kept 0 (Rules.stackBelow 0 s) (Rules.highOf (s.pc + 2#16)) s ∧
      m.read (Rules.stackBelow 1 s) = Rules.kept 1 (Rules.stackBelow 1 s) (Rules.lowOf (s.pc + 2#16)) s ∧
      ∀ b : Word, b ≠ Rules.stackBelow 0 s → b ≠ Rules.stackBelow 1 s → m.read b = s.mem.read b) ∧
    Rules.rowsOf .jsr = [(0x20#8, .absolute, 6, .none)]

/-- RTS reads the bytes at S + 1 and S + 2 of the stack page, with S wrapping, sets the program counter to the word they form,
low byte first, plus one, and raises S by two; memory, the flags and every other field are as before. Its one row is 0x60, six
cycles. -/
def Obligations.RtsPullsAndIncrements : Prop :=
  (∀ s : State,
      exec .rts s = .next { s with
        pc := BitVec.ofNat 16 (256 * (Rules.answer 1 (Rules.stackAbove 2 s) s).toNat +
            (Rules.answer 0 (Rules.stackAbove 1 s) s).toNat + 1)
        sp := s.sp + 2#8, bus := Rules.spent 2 0 s.bus
        busLog := s.busLog ++ [Rules.readEvent 0 (Rules.stackAbove 1 s) s, Rules.readEvent 1 (Rules.stackAbove 2 s) s] }) ∧
    Rules.rowsOf .rts = [(0x60#8, .implicit, 6, .none)]

/-- RTI reads the bytes at S + 1, S + 2 and S + 3 of the stack page, with S wrapping: the first gives C, Z, I, D, V and N,
with Break 0 and Unused 1, the other two the program counter, low byte first. S rises by three; memory and every other field
are as before. Its one row is 0x40, six cycles. -/
def Obligations.RtiRestoresStatusAndCounter : Prop :=
  (∀ s : State,
      exec .rti s = .next { s with
        p := Rules.restored (Rules.answer 0 (Rules.stackAbove 1 s) s)
        pc := BitVec.ofNat 16 (256 * (Rules.answer 2 (Rules.stackAbove 3 s) s).toNat +
            (Rules.answer 1 (Rules.stackAbove 2 s) s).toNat)
        sp := s.sp + 3#8, bus := Rules.spent 3 0 s.bus
        busLog := s.busLog ++ [Rules.readEvent 0 (Rules.stackAbove 1 s) s, Rules.readEvent 1 (Rules.stackAbove 2 s) s,
          Rules.readEvent 2 (Rules.stackAbove 3 s) s] }) ∧
    Rules.rowsOf .rti = [(0x40#8, .implicit, 6, .none)]

/-- After JSR, in any state with the S that JSR left, RTS answers the program counter of the instruction after the JSR and the
S from before it, whenever the bus answers its two reads with the bytes that JSR wrote; and so it does when no write of the
JSR is ignored, the same two stack bytes are in the RAM, and the bus answers from the RAM (notes/assumptions/1.md). The rule
marks the sentence as derived. -/
def Obligations.JsrThenRtsReturns : Prop :=
  (∀ (addr : Word) (s t u : State), exec (.jsr addr) s = .next t → u.sp = t.sp →
      Rules.answer 0 (Rules.stackAbove 1 u) u = Rules.lowOf (s.pc + 2#16) →
      Rules.answer 1 (Rules.stackAbove 2 u) u = Rules.highOf (s.pc + 2#16) →
      ∃ v : State, exec .rts u = .next v ∧ v.pc = s.pc + 3#16 ∧ v.sp = s.sp) ∧
    ∀ (addr : Word) (s t u : State), exec (.jsr addr) s = .next t → u.sp = t.sp →
      s.bus.ignored = [] → u.bus.answers = [] →
      u.mem.read (Rules.stackBelow 0 s) = t.mem.read (Rules.stackBelow 0 s) →
      u.mem.read (Rules.stackBelow 1 s) = t.mem.read (Rules.stackBelow 1 s) →
      ∃ v : State, exec .rts u = .next v ∧ v.pc = s.pc + 3#16 ∧ v.sp = s.sp

/-- BRK, whatever its padding byte, which it does not read, pushes the high and the low byte of its address plus two and the
status byte with 1 in the Break and Unused positions and I as before (a byte whose write the bus ignores stays), sets I,
leaves Break clear, and loads the program counter from 0xFFFE; every other byte of memory and every other field is as before.
Its one row is 0x00, Implicit, seven cycles, and it takes two bytes. The order of the pushes and of setting I is decision D10,
the unread padding byte D12. -/
def Obligations.BrkEntersTheInterruptSequence : Prop :=
  (∀ (pad : Byte) (s : State), ∃ m : Memory,
      Rules.FramePushed true { s with pc := s.pc + 2#16 } m ∧
      exec (.brk pad) s = .next
        { Rules.entered 0xFFFE#16 true m { s with pc := s.pc + 2#16 } with p := { s.p with i := true, b := false } }) ∧
    Rules.rowsOf .brk = [(0x00#8, .implicit, 7, .none)] ∧ instructionSize 0x00#8 = 2

/-- After BRK, in any state with the S that BRK left, RTI answers the program counter BRK's address plus two, the S from
before, and the flags from before but Break, which is 0, and Unused, which is 1, whenever the bus answers its three reads with
the bytes that BRK wrote; and so it does when no write of the BRK is ignored, the same three stack bytes are in the RAM, and
the bus answers from the RAM (notes/assumptions/1.md). That the address is plus two is the choice of 90_conflicts.md C4. -/
def Obligations.BrkThenRtiRestores : Prop :=
  (∀ (pad : Byte) (s t u : State), exec (.brk pad) s = .next t → u.sp = t.sp →
      (Rules.answer 0 (Rules.stackAbove 1 u) u).toNat = Rules.statusNumber true true s.p →
      Rules.answer 1 (Rules.stackAbove 2 u) u = Rules.lowOf (s.pc + 2#16) →
      Rules.answer 2 (Rules.stackAbove 3 u) u = Rules.highOf (s.pc + 2#16) →
      ∃ v : State, exec .rti u = .next v ∧ v.pc = s.pc + 2#16 ∧ v.sp = s.sp ∧ v.p = { s.p with b := false, u := true }) ∧
    ∀ (pad : Byte) (s t u : State), exec (.brk pad) s = .next t → u.sp = t.sp → s.bus.ignored = [] → u.bus.answers = [] →
      (∀ k : Nat, k < 3 → u.mem.read (Rules.stackBelow k s) = t.mem.read (Rules.stackBelow k s)) →
      ∃ v : State, exec .rti u = .next v ∧ v.pc = s.pc + 2#16 ∧ v.sp = s.sp ∧ v.p = { s.p with b := false, u := true }

/-- PHA writes A, and PHP the status byte with 0 in the Break and 1 in the Unused position, at S of the stack page (the byte
stays where the bus ignores the write); S falls by one, wrapping, the program counter advances by one, every other byte of
memory, the stored flags and every other field are as before. Each is one byte, three cycles. -/
def Obligations.PushInstructionsWriteOneByte : Prop :=
  (∀ s : State, ∃ m : Memory, Rules.StoredAt s (Rules.stackBelow 0 s) s.a m ∧
      exec .pha s = .next { s with
        pc := s.pc + 1#16, sp := s.sp - 1#8, mem := m, bus := Rules.spent 0 1 s.bus
        busLog := s.busLog ++ [.write (Rules.stackBelow 0 s) s.a] }) ∧
    (∀ s : State, ∃ (m : Memory) (v : Byte), v.toNat = Rules.statusNumber false true s.p ∧
      Rules.StoredAt s (Rules.stackBelow 0 s) v m ∧
      exec .php s = .next { s with
        pc := s.pc + 1#16, sp := s.sp - 1#8, mem := m, bus := Rules.spent 0 1 s.bus
        busLog := s.busLog ++ [.write (Rules.stackBelow 0 s) v] }) ∧
    Rules.rowsOf .pha = [(0x48#8, .implicit, 3, .none)] ∧
    Rules.rowsOf .php = [(0x08#8, .implicit, 3, .none)]

/-- PLA puts the byte at S + 1 of the stack page into A and sets Z and N from it; PLP restores C, Z, I, D, V and N from it,
with Break 0 and Unused 1. S rises by one, wrapping, the program counter advances by one, memory and every other field are as
before. Each is one byte, four cycles. -/
def Obligations.PullInstructionsReadOneByte : Prop :=
  (∀ s : State,
      exec .pla s = .next { s with
        pc := s.pc + 1#16, sp := s.sp + 1#8, a := Rules.answer 0 (Rules.stackAbove 1 s) s
        p := Rules.withZN (Rules.answer 0 (Rules.stackAbove 1 s) s) s.p, bus := Rules.spent 1 0 s.bus
        busLog := s.busLog ++ [Rules.readEvent 0 (Rules.stackAbove 1 s) s] } ∧
      exec .plp s = .next { s with
        pc := s.pc + 1#16, sp := s.sp + 1#8, p := Rules.restored (Rules.answer 0 (Rules.stackAbove 1 s) s),
            bus := Rules.spent 1 0 s.bus
        busLog := s.busLog ++ [Rules.readEvent 0 (Rules.stackAbove 1 s) s] }) ∧
    Rules.rowsOf .pla = [(0x68#8, .implicit, 4, .none)] ∧
    Rules.rowsOf .plp = [(0x28#8, .implicit, 4, .none)]

/-- Pushing lowers S by one and pulling right afterwards answers the S from before, from every S (decision D8); where the bus
does not ignore the write the stack byte holds the pushed byte, and where it also answers the pull from the RAM the pull
answers it (decision D11, notes/assumptions/1.md). -/
def Obligations.PullAfterPushRestores : Prop :=
  ∀ (v : Byte) (s : State), (push v s).sp = s.sp - 1#8 ∧ (pull (push v s)).2.sp = s.sp ∧
    (s.bus.ignored[0]? ≠ some true → (push v s).mem.read (Rules.stackBelow 0 s) = v ∧
      (s.bus.answers = [] → (pull (push v s)).1 = v))

/-- NOP answers the state with the program counter advanced by one and nothing else changed, without a bus access. Its one row
is 0xEA, two cycles. -/
def Obligations.NopOnlyAdvances : Prop :=
  (∀ s : State, exec .nop s = .next { s with pc := s.pc + 1#16 }) ∧ Rules.rowsOf .nop = [(0xEA#8, .implicit, 2, .none)]

/-- Every instruction whose row has class illegal answers the state that the resolver of its mode leaves: the program counter
past the instruction, the resolver's own reads made, the page-cross flag set on a page cross, and nothing else changed; the
byte at the address is neither read nor written. A *KIL row advances the program counter by one and changes nothing else. This
is decision D2 of the spec. -/
def Obligations.IllegalRowsOnlyResolve : Prop :=
  (∀ (i : Instr) (s : State), (tableRow i.opcode).cls = .illegal → exec i s = .next (Rules.resolved i.operand s)) ∧
    ∀ (i : Instr) (s : State), i.mnemonic = .illKil → exec i s = .next { s with pc := s.pc + 1#16 }

/-- When NMI is pending, the step runs its instruction and then pushes the program counter it left and the status byte with 0
in the Break position and I as the instruction left it, sets I, loads the program counter from 0xFFFA and clears the NMI
latch; the IRQ latch is unchanged, so a pending IRQ is deferred and not dropped; every other byte of memory and every other
field is as the instruction left it, but for the penalty flags, which Account cleared, and the cycle counts. Break 0 is
decision D9 of the spec. -/
def Obligations.NmiIsEnteredAfterTheInstruction : Prop :=
  ∀ s u : State, s.pendingNMI = true → exec (fetchInstr s) (prepareStep s) = .next u →
    ∃ (t : State) (m : Memory), step s = .next t ∧ Rules.FramePushed false u m ∧ t.pendingIRQ = s.pendingIRQ ∧
      t = { Rules.entered 0xFFFA#16 false m u with
        pendingNMI := false, pendingBranchCycle := false, pendingOopsCycle := false
        stepCycles := t.stepCycles, cycleCount := t.cycleCount }

/-- With no NMI pending: when IRQ is pending and the step's instruction left I clear, the step pushes the program counter and
the status byte with 0 in the Break position, sets I, loads the program counter from 0xFFFE and clears the IRQ latch; when the
instruction left I set, nothing is entered and the latch stays; when no IRQ is pending nothing is entered. Every other byte of
memory and every other field is as the instruction left it, but for the penalty flags and the cycle counts. Break 0 is
decision D9 of the spec, the absence of a delay D17. -/
def Obligations.IrqIsEnteredWhenUnmasked : Prop :=
  ∀ s u : State, s.pendingNMI = false → exec (fetchInstr s) (prepareStep s) = .next u →
    (s.pendingIRQ = true → u.p.i = false → ∃ (t : State) (m : Memory), step s = .next t ∧ Rules.FramePushed false u m ∧
      t = { Rules.entered 0xFFFE#16 false m u with
        pendingIRQ := false, pendingBranchCycle := false, pendingOopsCycle := false
        stepCycles := t.stepCycles, cycleCount := t.cycleCount }) ∧
    (s.pendingIRQ = false ∨ u.p.i = true → ∃ t : State, step s = .next t ∧ t.pendingIRQ = s.pendingIRQ ∧
      t = { u with pendingBranchCycle := false, pendingOopsCycle := false
                   stepCycles := t.stepCycles, cycleCount := t.cycleCount })

/-- With an IRQ and no NMI pending, a step that runs CLI ends at the IRQ vector with I set and no IRQ pending, and a step that
runs SEI ends at the next instruction with I set and the IRQ still pending. This is decision D17 of the spec. -/
def Obligations.InterruptMaskActsInItsOwnStep : Prop :=
  (∀ s : State, fetchInstr s = .cli → s.pendingNMI = false → s.pendingIRQ = true →
      ∃ t : State, step s = .next t ∧ t.pc = Rules.wordAt 1 0xFFFE#16 s ∧ t.p.i = true ∧ t.pendingIRQ = false) ∧
    ∀ s : State, fetchInstr s = .sei → s.pendingNMI = false → s.pendingIRQ = true →
      ∃ t : State, step s = .next t ∧ t.pc = s.pc + 1#16 ∧ t.p.i = true ∧ t.pendingIRQ = true

/-- A step that runs BRK with NMI pending ends at the NMI vector with S lower by six: the BRK's frame is pushed first, and the
NMI pushes above it the address the bus answered at 0xFFFE, the first instruction of the BRK handler (a byte whose write the
bus ignores stays); an IRQ pending at a BRK with no NMI is not entered and stays pending. -/
def Obligations.NmiOnTopOfBrk : Prop :=
  (∀ (s : State) (pad : Byte), fetchInstr s = .brk pad → s.pendingNMI = true →
      ∃ t : State, step s = .next t ∧ t.pc = Rules.wordAt 3 0xFFFA#16 s ∧ t.sp = s.sp - 6#8 ∧
        t.mem.read (Rules.stackBelow 0 s) = Rules.kept 0 (Rules.stackBelow 0 s) (Rules.highOf (s.pc + 2#16)) s ∧
        t.mem.read (Rules.stackBelow 1 s) = Rules.kept 1 (Rules.stackBelow 1 s) (Rules.lowOf (s.pc + 2#16)) s ∧
        t.mem.read (Rules.stackBelow 2 s) =
          Rules.kept 2 (Rules.stackBelow 2 s) (BitVec.ofNat 8 (Rules.statusNumber true true s.p)) s ∧
        t.mem.read (Rules.stackBelow 3 s) = Rules.kept 3 (Rules.stackBelow 3 s) (Rules.answer 2 0xFFFF#16 s) s ∧
        t.mem.read (Rules.stackBelow 4 s) = Rules.kept 4 (Rules.stackBelow 4 s) (Rules.answer 1 0xFFFE#16 s) s ∧
        t.mem.read (Rules.stackBelow 5 s) =
          Rules.kept 5 (Rules.stackBelow 5 s) (BitVec.ofNat 8 (Rules.statusNumber false true { s.p with i := true })) s) ∧
    ∀ (s : State) (pad : Byte), fetchInstr s = .brk pad → s.pendingNMI = false → s.pendingIRQ = true →
      ∃ t : State, step s = .next t ∧ t.pc = Rules.wordAt 1 0xFFFE#16 s ∧ t.sp = s.sp - 3#8 ∧ t.pendingIRQ = true

/-- A is written by no instruction but those the rule lists; an instruction that the rule does not list as reading A answers,
from two states that differ in A alone, two states that differ in A at most, and in nothing if it writes A; and A is 0x00
after reset. -/
def Obligations.AccumulatorWritersAndReaders : Prop :=
  (∀ (i : Instr) (s t : State), exec i s = .next t → i.mnemonic ∉ Rules.accumulatorWriters →
      ¬ (i.mnemonic ∈ Rules.shifts ∧ operandMode i.operand = .accumulator) → t.a = s.a) ∧
    (∀ (i : Instr) (s t : State) (v : Byte), exec i s = .next t → i.mnemonic ∉ Rules.accumulatorReaders →
        operandMode i.operand ≠ .accumulator →
      exec i { s with a := v } = .next (if i.mnemonic ∈ Rules.accumulatorWriters then t else { t with a := v })) ∧
    State.reset.a = 0x00#8 ∧ ∀ s : State, (resetOp s).a = 0x00#8

/-- X and Y are each written by no instruction but those the register's rule lists; an instruction that the rule does not list
as reading the register, in a mode whose resolver does not read it, answers, from two states that differ in that register
alone, two states that differ in it at most, and in nothing if it writes it; and both are 0x00 after reset. -/
def Obligations.IndexWritersAndReaders : Prop :=
  (∀ (i : Instr) (s t : State), exec i s = .next t → i.mnemonic ∉ Rules.xWriters → t.x = s.x) ∧
    (∀ (i : Instr) (s t : State) (v : Byte), exec i s = .next t → i.mnemonic ∉ Rules.xReaders →
        operandMode i.operand ≠ .absoluteX → operandMode i.operand ≠ .zeroPageX → operandMode i.operand ≠ .indexedIndirectX →
      exec i { s with x := v } = .next (if i.mnemonic ∈ Rules.xWriters then t else { t with x := v })) ∧
    (∀ (i : Instr) (s t : State), exec i s = .next t → i.mnemonic ∉ Rules.yWriters → t.y = s.y) ∧
    (∀ (i : Instr) (s t : State) (v : Byte), exec i s = .next t → i.mnemonic ∉ Rules.yReaders →
        operandMode i.operand ≠ .absoluteY → operandMode i.operand ≠ .zeroPageY → operandMode i.operand ≠ .indirectIndexedY →
      exec i { s with y := v } = .next (if i.mnemonic ∈ Rules.yWriters then t else { t with y := v })) ∧
    (State.reset.x = 0x00#8 ∧ State.reset.y = 0x00#8 ∧ ∀ s : State, (resetOp s).x = 0x00#8 ∧ (resetOp s).y = 0x00#8)

/-- S is written by no instruction but TXS and those that push or pull; an instruction other than TSX and those that push or
pull answers, from two states that differ in S alone, two states that differ in S at most, and in nothing if it is TXS; a push
writes no byte outside 0x0100 to 0x01FF, and S is 0xFD after reset. The interrupt entry's pushes are statements of their own. -/
def Obligations.StackPointerWritersAndReaders : Prop :=
  (∀ (i : Instr) (s t : State), exec i s = .next t → i.mnemonic ∉ Rules.stackUsers → i.mnemonic ≠ .txs → t.sp = s.sp) ∧
    (∀ (i : Instr) (s t : State) (v : Byte), exec i s = .next t → i.mnemonic ∉ Rules.stackUsers → i.mnemonic ≠ .tsx →
      exec i { s with sp := v } = .next (if i.mnemonic = .txs then t else { t with sp := v })) ∧
    (∀ (v : Byte) (s : State) (b : Word), Rules.page b ≠ 1 → (push v s).mem.read b = s.mem.read b) ∧
    State.reset.sp = 0xFD#8

/-- No instruction writes a flag that the flag's rule does not list it for: C, Z, I, D, Break, Unused, V and N each change
only under the instructions of R28 to R35. Interrupt entry, which sets I, is a statement of its own. -/
def Obligations.FlagWriters : Prop :=
  ∀ (i : Instr) (s t : State), exec i s = .next t →
    (i.mnemonic ∉ Rules.carryWriters → t.p.c = s.p.c) ∧
    (i.mnemonic ∉ Rules.zeroNegativeWriters → t.p.z = s.p.z) ∧
    (i.mnemonic ∉ Rules.interruptDisableWriters → t.p.i = s.p.i) ∧
    (i.mnemonic ∉ Rules.decimalWriters → t.p.d = s.p.d) ∧
    (i.mnemonic ∉ Rules.overflowWriters → t.p.v = s.p.v) ∧
    (i.mnemonic ∉ Rules.zeroNegativeWriters → t.p.n = s.p.n) ∧
    (i.mnemonic ∉ Rules.breakWriters → t.p.b = s.p.b) ∧
    (i.mnemonic ∉ Rules.unusedWriters → t.p.u = s.p.u)

/-- An instruction that a flag's rule does not list as reading it (and that does not push the status) answers, from two states
that differ in that flag alone, two states that differ in that flag at most, and in nothing if it writes the flag. Every
instruction is one of these for the stored Break and Unused flags: a push takes both positions from the pushing operation. -/
def Obligations.FlagReaders : Prop :=
  ∀ (i : Instr) (s t : State) (v : Bool), exec i s = .next t →
    (i.mnemonic ∉ Rules.carryReaders →
      exec i { s with p := { s.p with c := v } } = .next
        (if i.mnemonic ∈ Rules.carryWriters then t
         else { t with p := { t.p with c := v } })) ∧
    (i.mnemonic ∉ Rules.zeroReaders →
      exec i { s with p := { s.p with z := v } } = .next
        (if i.mnemonic ∈ Rules.zeroNegativeWriters then t
         else { t with p := { t.p with z := v } })) ∧
    (i.mnemonic ∉ Rules.statusPushers →
      exec i { s with p := { s.p with i := v } } = .next
        (if i.mnemonic ∈ Rules.interruptDisableWriters then t
         else { t with p := { t.p with i := v } })) ∧
    (i.mnemonic ∉ Rules.statusPushers →
      exec i { s with p := { s.p with d := v } } = .next
        (if i.mnemonic ∈ Rules.decimalWriters then t
         else { t with p := { t.p with d := v } })) ∧
    (i.mnemonic ∉ Rules.overflowReaders →
      exec i { s with p := { s.p with v := v } } = .next
        (if i.mnemonic ∈ Rules.overflowWriters then t
         else { t with p := { t.p with v := v } })) ∧
    (i.mnemonic ∉ Rules.negativeReaders →
      exec i { s with p := { s.p with n := v } } = .next
        (if i.mnemonic ∈ Rules.zeroNegativeWriters then t
         else { t with p := { t.p with n := v } })) ∧
    exec i { s with p := { s.p with b := v } } = .next
      (if i.mnemonic ∈ Rules.breakWriters then t else { t with p := { t.p with b := v } }) ∧
    exec i { s with p := { s.p with u := v } } = .next
      (if i.mnemonic ∈ Rules.unusedWriters then t else { t with p := { t.p with u := v } })

/-- Two steps from states that differ in D alone answer the same A, X, Y, S, program counter, flags but D, latches, cycle
counts and bus, and the same byte at every address, but that a status byte the step pushed may differ in bit 3: PHP's, at the
S from before, BRK's, at the S from before less two, and an interrupt entry's, at the final S plus one. -/
def Obligations.DecimalFlagChangesNoResult : Prop :=
  ∀ (s t u : State) (d : Bool), step s = .next t → step { s with p := { s.p with d := d } } = .next u →
    u.a = t.a ∧ u.x = t.x ∧ u.y = t.y ∧ u.sp = t.sp ∧ u.pc = t.pc ∧ u.p = { t.p with d := u.p.d } ∧
      u.pendingNMI = t.pendingNMI ∧ u.pendingIRQ = t.pendingIRQ ∧ u.stepCycles = t.stepCycles ∧ u.cycleCount = t.cycleCount ∧
      u.bus = t.bus ∧ u.busLog.length = t.busLog.length ∧
      ∀ b : Word, u.mem.read b = t.mem.read b ∨
        u.mem.read b ||| 0x08#8 = t.mem.read b ||| 0x08#8 ∧
          ((fetchInstr s).mnemonic = .php ∧ b = Rules.stackBelow 0 s ∨
            (fetchInstr s).mnemonic = .brk ∧ b = Rules.stackBelow 2 s ∨
            (s.pendingNMI = true ∨ s.pendingIRQ = true) ∧ b = Rules.stackAbove 1 t)

/-- Exec of every instruction leaves the two interrupt latches, dmaCycles, cycleCount, the step total and the parameters as
they were, clears no penalty flag, and sets the branch-taken flag only when the instruction is a branch and the page-cross
flag only when the mode crosses a page. -/
def Obligations.InstructionsLeaveTheEngineAlone : Prop :=
  ∀ (i : Instr) (s t : State), exec i s = .next t →
    t.pendingNMI = s.pendingNMI ∧ t.pendingIRQ = s.pendingIRQ ∧ t.dmaCycles = s.dmaCycles ∧ t.cycleCount = s.cycleCount ∧
      t.stepCycles = s.stepCycles ∧ t.params = s.params ∧
      t.pendingBranchCycle = (s.pendingBranchCycle || (Rules.condition i.mnemonic s.p == some true)) ∧
      t.pendingOopsCycle = (s.pendingOopsCycle || Rules.crosses i.operand s)

/-- Only STA, STX, STY, INC, DEC, ASL, LSR, ROL and ROR with an address, and PHA, PHP, JSR and BRK change memory; the former
change at most the byte at the address the resolver answers, the latter at most bytes of the stack page; every other
instruction leaves memory as it was. -/
def Obligations.OnlyStoresAndPushesWriteMemory : Prop :=
  ∀ (i : Instr) (s t : State), exec i s = .next t →
    (i.mnemonic ∉ Rules.addressWriters → i.mnemonic ∉ Rules.pushers → t.mem = s.mem) ∧
      (i.mnemonic ∈ Rules.addressWriters →
        ∀ b : Word, (resolve i.operand s).1 ≠ .memory b → t.mem.read b = s.mem.read b) ∧
      (i.mnemonic ∈ Rules.pushers → ∀ b : Word, Rules.page b ≠ 1 → t.mem.read b = s.mem.read b)

/-- From every state, and so for every list of answers and of ignored writes, the log of a step is an exchange with the bus
that leads from the bus and the memory before to those after: each read, in order, has the byte that the bus answers it (its
own, different ones at one address too, and the RAM's where it gives none), each write reaches the RAM unless the bus ignores
it, and nothing else changes memory or the bus. The same holds of the reset operation. The answers as part of the state are
the model's form of the parameter Bus, decision D11 (notes/assumptions/1.md). -/
def Obligations.EveryAccessIsTheBus : Prop :=
  (∀ s t : State, step s = .next t → Rules.exchange s.bus s.mem t.busLog = some (t.bus, t.mem)) ∧
    ∀ s : State, Rules.exchange s.bus s.mem (resetOp s).busLog = some ((resetOp s).bus, (resetOp s).mem)

/-- When the bus gives its own answer to each of the next seven reads (a step makes no more), two steps from states that
differ in the memory behind the bus alone answer states that differ in that memory alone: the core assumes nothing of what a
read answers, a byte it has just written included. The answers as part of the state are the model's form of the parameter Bus,
decision D11 (notes/assumptions/1.md). -/
def Obligations.CoreKnowsTheBusAlone : Prop :=
  ∀ (s t : State) (m : Memory), (∀ k : Nat, k < 7 → ∃ v : Byte, s.bus.answers[k]? = some (some v)) → step s = .next t →
    ∃ n : Memory, step { s with mem := m } = .next { t with mem := n }

end
end

