-- ==== Sys2Proof/Laws/Encoding.lean ====
section
/-! SUPPORT. The decoder and the dispatch table at each opcode byte, and the splitting and joining of a word's two bytes. -/

namespace Sys2Proof

theorem toNat_wordOfBytes (hi lo : Byte) : (wordOfBytes hi lo).toNat = hi.toNat * 256 + lo.toNat := by
  have h1 := hi.isLt
  have h2 := lo.isLt
  simp only [wordOfBytes, BitVec.toNat_ofNat]
  omega

theorem toNat_lowByte (w : Word) : (lowByte w).toNat = w.toNat % 256 := by
  simp [lowByte, BitVec.extractLsb'_toNat]

theorem toNat_highByte (w : Word) : (highByte w).toNat = w.toNat / 256 := by
  have h := w.isLt
  simp only [highByte, BitVec.extractLsb'_toNat, Nat.shiftRight_eq_div_pow]
  omega

@[simp] theorem lowByte_wordOfBytes (hi lo : Byte) : lowByte (wordOfBytes hi lo) = lo := by
  apply BitVec.eq_of_toNat_eq
  have h := lo.isLt
  rw [toNat_lowByte, toNat_wordOfBytes]
  omega

@[simp] theorem highByte_wordOfBytes (hi lo : Byte) : highByte (wordOfBytes hi lo) = hi := by
  apply BitVec.eq_of_toNat_eq
  have h := lo.isLt
  rw [toNat_highByte, toNat_wordOfBytes]
  omega

@[simp] theorem wordOfBytes_highByte_lowByte (w : Word) : wordOfBytes (highByte w) (lowByte w) = w := by
  apply BitVec.eq_of_toNat_eq
  rw [toNat_wordOfBytes, toNat_highByte, toNat_lowByte]
  omega

theorem decodeBytes_00 (b1 b2 : Byte) : decodeBytes 0x00#8 b1 b2 = .brk b1 := rfl
theorem decodeBytes_01 (b1 b2 : Byte) : decodeBytes 0x01#8 b1 b2 = .oraIzx b1 := rfl
theorem decodeBytes_02 (b1 b2 : Byte) : decodeBytes 0x02#8 b1 b2 = .illKil02 := rfl
theorem decodeBytes_03 (b1 b2 : Byte) : decodeBytes 0x03#8 b1 b2 = .illSlo03 b1 := rfl
theorem decodeBytes_04 (b1 b2 : Byte) : decodeBytes 0x04#8 b1 b2 = .illNop04 b1 := rfl
theorem decodeBytes_05 (b1 b2 : Byte) : decodeBytes 0x05#8 b1 b2 = .oraZp b1 := rfl
theorem decodeBytes_06 (b1 b2 : Byte) : decodeBytes 0x06#8 b1 b2 = .aslZp b1 := rfl
theorem decodeBytes_07 (b1 b2 : Byte) : decodeBytes 0x07#8 b1 b2 = .illSlo07 b1 := rfl
theorem decodeBytes_08 (b1 b2 : Byte) : decodeBytes 0x08#8 b1 b2 = .php := rfl
theorem decodeBytes_09 (b1 b2 : Byte) : decodeBytes 0x09#8 b1 b2 = .oraImm b1 := rfl
theorem decodeBytes_0A (b1 b2 : Byte) : decodeBytes 0x0A#8 b1 b2 = .aslAcc := rfl
theorem decodeBytes_0B (b1 b2 : Byte) : decodeBytes 0x0B#8 b1 b2 = .illAnc0B b1 := rfl
theorem decodeBytes_0C (b1 b2 : Byte) : decodeBytes 0x0C#8 b1 b2 = .illNop0C (wordOfBytes b2 b1) := rfl
theorem decodeBytes_0D (b1 b2 : Byte) : decodeBytes 0x0D#8 b1 b2 = .oraAbs (wordOfBytes b2 b1) := rfl
theorem decodeBytes_0E (b1 b2 : Byte) : decodeBytes 0x0E#8 b1 b2 = .aslAbs (wordOfBytes b2 b1) := rfl
theorem decodeBytes_0F (b1 b2 : Byte) : decodeBytes 0x0F#8 b1 b2 = .illSlo0F (wordOfBytes b2 b1) := rfl
theorem decodeBytes_10 (b1 b2 : Byte) : decodeBytes 0x10#8 b1 b2 = .bpl b1 := rfl
theorem decodeBytes_11 (b1 b2 : Byte) : decodeBytes 0x11#8 b1 b2 = .oraIzy b1 := rfl
theorem decodeBytes_12 (b1 b2 : Byte) : decodeBytes 0x12#8 b1 b2 = .illKil12 := rfl
theorem decodeBytes_13 (b1 b2 : Byte) : decodeBytes 0x13#8 b1 b2 = .illSlo13 b1 := rfl
theorem decodeBytes_14 (b1 b2 : Byte) : decodeBytes 0x14#8 b1 b2 = .illNop14 b1 := rfl
theorem decodeBytes_15 (b1 b2 : Byte) : decodeBytes 0x15#8 b1 b2 = .oraZpx b1 := rfl
theorem decodeBytes_16 (b1 b2 : Byte) : decodeBytes 0x16#8 b1 b2 = .aslZpx b1 := rfl
theorem decodeBytes_17 (b1 b2 : Byte) : decodeBytes 0x17#8 b1 b2 = .illSlo17 b1 := rfl
theorem decodeBytes_18 (b1 b2 : Byte) : decodeBytes 0x18#8 b1 b2 = .clc := rfl
theorem decodeBytes_19 (b1 b2 : Byte) : decodeBytes 0x19#8 b1 b2 = .oraAby (wordOfBytes b2 b1) := rfl
theorem decodeBytes_1A (b1 b2 : Byte) : decodeBytes 0x1A#8 b1 b2 = .illNop1A := rfl
theorem decodeBytes_1B (b1 b2 : Byte) : decodeBytes 0x1B#8 b1 b2 = .illSlo1B (wordOfBytes b2 b1) := rfl
theorem decodeBytes_1C (b1 b2 : Byte) : decodeBytes 0x1C#8 b1 b2 = .illNop1C (wordOfBytes b2 b1) := rfl
theorem decodeBytes_1D (b1 b2 : Byte) : decodeBytes 0x1D#8 b1 b2 = .oraAbx (wordOfBytes b2 b1) := rfl
theorem decodeBytes_1E (b1 b2 : Byte) : decodeBytes 0x1E#8 b1 b2 = .aslAbx (wordOfBytes b2 b1) := rfl
theorem decodeBytes_1F (b1 b2 : Byte) : decodeBytes 0x1F#8 b1 b2 = .illSlo1F (wordOfBytes b2 b1) := rfl
theorem decodeBytes_20 (b1 b2 : Byte) : decodeBytes 0x20#8 b1 b2 = .jsr (wordOfBytes b2 b1) := rfl
theorem decodeBytes_21 (b1 b2 : Byte) : decodeBytes 0x21#8 b1 b2 = .andIzx b1 := rfl
theorem decodeBytes_22 (b1 b2 : Byte) : decodeBytes 0x22#8 b1 b2 = .illKil22 := rfl
theorem decodeBytes_23 (b1 b2 : Byte) : decodeBytes 0x23#8 b1 b2 = .illRla23 b1 := rfl
theorem decodeBytes_24 (b1 b2 : Byte) : decodeBytes 0x24#8 b1 b2 = .bitZp b1 := rfl
theorem decodeBytes_25 (b1 b2 : Byte) : decodeBytes 0x25#8 b1 b2 = .andZp b1 := rfl
theorem decodeBytes_26 (b1 b2 : Byte) : decodeBytes 0x26#8 b1 b2 = .rolZp b1 := rfl
theorem decodeBytes_27 (b1 b2 : Byte) : decodeBytes 0x27#8 b1 b2 = .illRla27 b1 := rfl
theorem decodeBytes_28 (b1 b2 : Byte) : decodeBytes 0x28#8 b1 b2 = .plp := rfl
theorem decodeBytes_29 (b1 b2 : Byte) : decodeBytes 0x29#8 b1 b2 = .andImm b1 := rfl
theorem decodeBytes_2A (b1 b2 : Byte) : decodeBytes 0x2A#8 b1 b2 = .rolAcc := rfl
theorem decodeBytes_2B (b1 b2 : Byte) : decodeBytes 0x2B#8 b1 b2 = .illAnc2B b1 := rfl
theorem decodeBytes_2C (b1 b2 : Byte) : decodeBytes 0x2C#8 b1 b2 = .bitAbs (wordOfBytes b2 b1) := rfl
theorem decodeBytes_2D (b1 b2 : Byte) : decodeBytes 0x2D#8 b1 b2 = .andAbs (wordOfBytes b2 b1) := rfl
theorem decodeBytes_2E (b1 b2 : Byte) : decodeBytes 0x2E#8 b1 b2 = .rolAbs (wordOfBytes b2 b1) := rfl
theorem decodeBytes_2F (b1 b2 : Byte) : decodeBytes 0x2F#8 b1 b2 = .illRla2F (wordOfBytes b2 b1) := rfl
theorem decodeBytes_30 (b1 b2 : Byte) : decodeBytes 0x30#8 b1 b2 = .bmi b1 := rfl
theorem decodeBytes_31 (b1 b2 : Byte) : decodeBytes 0x31#8 b1 b2 = .andIzy b1 := rfl
theorem decodeBytes_32 (b1 b2 : Byte) : decodeBytes 0x32#8 b1 b2 = .illKil32 := rfl
theorem decodeBytes_33 (b1 b2 : Byte) : decodeBytes 0x33#8 b1 b2 = .illRla33 b1 := rfl
theorem decodeBytes_34 (b1 b2 : Byte) : decodeBytes 0x34#8 b1 b2 = .illNop34 b1 := rfl
theorem decodeBytes_35 (b1 b2 : Byte) : decodeBytes 0x35#8 b1 b2 = .andZpx b1 := rfl
theorem decodeBytes_36 (b1 b2 : Byte) : decodeBytes 0x36#8 b1 b2 = .rolZpx b1 := rfl
theorem decodeBytes_37 (b1 b2 : Byte) : decodeBytes 0x37#8 b1 b2 = .illRla37 b1 := rfl
theorem decodeBytes_38 (b1 b2 : Byte) : decodeBytes 0x38#8 b1 b2 = .sec := rfl
theorem decodeBytes_39 (b1 b2 : Byte) : decodeBytes 0x39#8 b1 b2 = .andAby (wordOfBytes b2 b1) := rfl
theorem decodeBytes_3A (b1 b2 : Byte) : decodeBytes 0x3A#8 b1 b2 = .illNop3A := rfl
theorem decodeBytes_3B (b1 b2 : Byte) : decodeBytes 0x3B#8 b1 b2 = .illRla3B (wordOfBytes b2 b1) := rfl
theorem decodeBytes_3C (b1 b2 : Byte) : decodeBytes 0x3C#8 b1 b2 = .illNop3C (wordOfBytes b2 b1) := rfl
theorem decodeBytes_3D (b1 b2 : Byte) : decodeBytes 0x3D#8 b1 b2 = .andAbx (wordOfBytes b2 b1) := rfl
theorem decodeBytes_3E (b1 b2 : Byte) : decodeBytes 0x3E#8 b1 b2 = .rolAbx (wordOfBytes b2 b1) := rfl
theorem decodeBytes_3F (b1 b2 : Byte) : decodeBytes 0x3F#8 b1 b2 = .illRla3F (wordOfBytes b2 b1) := rfl
theorem decodeBytes_40 (b1 b2 : Byte) : decodeBytes 0x40#8 b1 b2 = .rti := rfl
theorem decodeBytes_41 (b1 b2 : Byte) : decodeBytes 0x41#8 b1 b2 = .eorIzx b1 := rfl
theorem decodeBytes_42 (b1 b2 : Byte) : decodeBytes 0x42#8 b1 b2 = .illKil42 := rfl
theorem decodeBytes_43 (b1 b2 : Byte) : decodeBytes 0x43#8 b1 b2 = .illSre43 b1 := rfl
theorem decodeBytes_44 (b1 b2 : Byte) : decodeBytes 0x44#8 b1 b2 = .illNop44 b1 := rfl
theorem decodeBytes_45 (b1 b2 : Byte) : decodeBytes 0x45#8 b1 b2 = .eorZp b1 := rfl
theorem decodeBytes_46 (b1 b2 : Byte) : decodeBytes 0x46#8 b1 b2 = .lsrZp b1 := rfl
theorem decodeBytes_47 (b1 b2 : Byte) : decodeBytes 0x47#8 b1 b2 = .illSre47 b1 := rfl
theorem decodeBytes_48 (b1 b2 : Byte) : decodeBytes 0x48#8 b1 b2 = .pha := rfl
theorem decodeBytes_49 (b1 b2 : Byte) : decodeBytes 0x49#8 b1 b2 = .eorImm b1 := rfl
theorem decodeBytes_4A (b1 b2 : Byte) : decodeBytes 0x4A#8 b1 b2 = .lsrAcc := rfl
theorem decodeBytes_4B (b1 b2 : Byte) : decodeBytes 0x4B#8 b1 b2 = .illAlr4B b1 := rfl
theorem decodeBytes_4C (b1 b2 : Byte) : decodeBytes 0x4C#8 b1 b2 = .jmpAbs (wordOfBytes b2 b1) := rfl
theorem decodeBytes_4D (b1 b2 : Byte) : decodeBytes 0x4D#8 b1 b2 = .eorAbs (wordOfBytes b2 b1) := rfl
theorem decodeBytes_4E (b1 b2 : Byte) : decodeBytes 0x4E#8 b1 b2 = .lsrAbs (wordOfBytes b2 b1) := rfl
theorem decodeBytes_4F (b1 b2 : Byte) : decodeBytes 0x4F#8 b1 b2 = .illSre4F (wordOfBytes b2 b1) := rfl
theorem decodeBytes_50 (b1 b2 : Byte) : decodeBytes 0x50#8 b1 b2 = .bvc b1 := rfl
theorem decodeBytes_51 (b1 b2 : Byte) : decodeBytes 0x51#8 b1 b2 = .eorIzy b1 := rfl
theorem decodeBytes_52 (b1 b2 : Byte) : decodeBytes 0x52#8 b1 b2 = .illKil52 := rfl
theorem decodeBytes_53 (b1 b2 : Byte) : decodeBytes 0x53#8 b1 b2 = .illSre53 b1 := rfl
theorem decodeBytes_54 (b1 b2 : Byte) : decodeBytes 0x54#8 b1 b2 = .illNop54 b1 := rfl
theorem decodeBytes_55 (b1 b2 : Byte) : decodeBytes 0x55#8 b1 b2 = .eorZpx b1 := rfl
theorem decodeBytes_56 (b1 b2 : Byte) : decodeBytes 0x56#8 b1 b2 = .lsrZpx b1 := rfl
theorem decodeBytes_57 (b1 b2 : Byte) : decodeBytes 0x57#8 b1 b2 = .illSre57 b1 := rfl
theorem decodeBytes_58 (b1 b2 : Byte) : decodeBytes 0x58#8 b1 b2 = .cli := rfl
theorem decodeBytes_59 (b1 b2 : Byte) : decodeBytes 0x59#8 b1 b2 = .eorAby (wordOfBytes b2 b1) := rfl
theorem decodeBytes_5A (b1 b2 : Byte) : decodeBytes 0x5A#8 b1 b2 = .illNop5A := rfl
theorem decodeBytes_5B (b1 b2 : Byte) : decodeBytes 0x5B#8 b1 b2 = .illSre5B (wordOfBytes b2 b1) := rfl
theorem decodeBytes_5C (b1 b2 : Byte) : decodeBytes 0x5C#8 b1 b2 = .illNop5C (wordOfBytes b2 b1) := rfl
theorem decodeBytes_5D (b1 b2 : Byte) : decodeBytes 0x5D#8 b1 b2 = .eorAbx (wordOfBytes b2 b1) := rfl
theorem decodeBytes_5E (b1 b2 : Byte) : decodeBytes 0x5E#8 b1 b2 = .lsrAbx (wordOfBytes b2 b1) := rfl
theorem decodeBytes_5F (b1 b2 : Byte) : decodeBytes 0x5F#8 b1 b2 = .illSre5F (wordOfBytes b2 b1) := rfl
theorem decodeBytes_60 (b1 b2 : Byte) : decodeBytes 0x60#8 b1 b2 = .rts := rfl
theorem decodeBytes_61 (b1 b2 : Byte) : decodeBytes 0x61#8 b1 b2 = .adcIzx b1 := rfl
theorem decodeBytes_62 (b1 b2 : Byte) : decodeBytes 0x62#8 b1 b2 = .illKil62 := rfl
theorem decodeBytes_63 (b1 b2 : Byte) : decodeBytes 0x63#8 b1 b2 = .illRra63 b1 := rfl
theorem decodeBytes_64 (b1 b2 : Byte) : decodeBytes 0x64#8 b1 b2 = .illNop64 b1 := rfl
theorem decodeBytes_65 (b1 b2 : Byte) : decodeBytes 0x65#8 b1 b2 = .adcZp b1 := rfl
theorem decodeBytes_66 (b1 b2 : Byte) : decodeBytes 0x66#8 b1 b2 = .rorZp b1 := rfl
theorem decodeBytes_67 (b1 b2 : Byte) : decodeBytes 0x67#8 b1 b2 = .illRra67 b1 := rfl
theorem decodeBytes_68 (b1 b2 : Byte) : decodeBytes 0x68#8 b1 b2 = .pla := rfl
theorem decodeBytes_69 (b1 b2 : Byte) : decodeBytes 0x69#8 b1 b2 = .adcImm b1 := rfl
theorem decodeBytes_6A (b1 b2 : Byte) : decodeBytes 0x6A#8 b1 b2 = .rorAcc := rfl
theorem decodeBytes_6B (b1 b2 : Byte) : decodeBytes 0x6B#8 b1 b2 = .illArr6B b1 := rfl
theorem decodeBytes_6C (b1 b2 : Byte) : decodeBytes 0x6C#8 b1 b2 = .jmpInd (wordOfBytes b2 b1) := rfl
theorem decodeBytes_6D (b1 b2 : Byte) : decodeBytes 0x6D#8 b1 b2 = .adcAbs (wordOfBytes b2 b1) := rfl
theorem decodeBytes_6E (b1 b2 : Byte) : decodeBytes 0x6E#8 b1 b2 = .rorAbs (wordOfBytes b2 b1) := rfl
theorem decodeBytes_6F (b1 b2 : Byte) : decodeBytes 0x6F#8 b1 b2 = .illRra6F (wordOfBytes b2 b1) := rfl
theorem decodeBytes_70 (b1 b2 : Byte) : decodeBytes 0x70#8 b1 b2 = .bvs b1 := rfl
theorem decodeBytes_71 (b1 b2 : Byte) : decodeBytes 0x71#8 b1 b2 = .adcIzy b1 := rfl
theorem decodeBytes_72 (b1 b2 : Byte) : decodeBytes 0x72#8 b1 b2 = .illKil72 := rfl
theorem decodeBytes_73 (b1 b2 : Byte) : decodeBytes 0x73#8 b1 b2 = .illRra73 b1 := rfl
theorem decodeBytes_74 (b1 b2 : Byte) : decodeBytes 0x74#8 b1 b2 = .illNop74 b1 := rfl
theorem decodeBytes_75 (b1 b2 : Byte) : decodeBytes 0x75#8 b1 b2 = .adcZpx b1 := rfl
theorem decodeBytes_76 (b1 b2 : Byte) : decodeBytes 0x76#8 b1 b2 = .rorZpx b1 := rfl
theorem decodeBytes_77 (b1 b2 : Byte) : decodeBytes 0x77#8 b1 b2 = .illRra77 b1 := rfl
theorem decodeBytes_78 (b1 b2 : Byte) : decodeBytes 0x78#8 b1 b2 = .sei := rfl
theorem decodeBytes_79 (b1 b2 : Byte) : decodeBytes 0x79#8 b1 b2 = .adcAby (wordOfBytes b2 b1) := rfl
theorem decodeBytes_7A (b1 b2 : Byte) : decodeBytes 0x7A#8 b1 b2 = .illNop7A := rfl
theorem decodeBytes_7B (b1 b2 : Byte) : decodeBytes 0x7B#8 b1 b2 = .illRra7B (wordOfBytes b2 b1) := rfl
theorem decodeBytes_7C (b1 b2 : Byte) : decodeBytes 0x7C#8 b1 b2 = .illNop7C (wordOfBytes b2 b1) := rfl
theorem decodeBytes_7D (b1 b2 : Byte) : decodeBytes 0x7D#8 b1 b2 = .adcAbx (wordOfBytes b2 b1) := rfl
theorem decodeBytes_7E (b1 b2 : Byte) : decodeBytes 0x7E#8 b1 b2 = .rorAbx (wordOfBytes b2 b1) := rfl
theorem decodeBytes_7F (b1 b2 : Byte) : decodeBytes 0x7F#8 b1 b2 = .illRra7F (wordOfBytes b2 b1) := rfl
theorem decodeBytes_80 (b1 b2 : Byte) : decodeBytes 0x80#8 b1 b2 = .illNop80 b1 := rfl
theorem decodeBytes_81 (b1 b2 : Byte) : decodeBytes 0x81#8 b1 b2 = .staIzx b1 := rfl
theorem decodeBytes_82 (b1 b2 : Byte) : decodeBytes 0x82#8 b1 b2 = .illNop82 b1 := rfl
theorem decodeBytes_83 (b1 b2 : Byte) : decodeBytes 0x83#8 b1 b2 = .illSax83 b1 := rfl
theorem decodeBytes_84 (b1 b2 : Byte) : decodeBytes 0x84#8 b1 b2 = .styZp b1 := rfl
theorem decodeBytes_85 (b1 b2 : Byte) : decodeBytes 0x85#8 b1 b2 = .staZp b1 := rfl
theorem decodeBytes_86 (b1 b2 : Byte) : decodeBytes 0x86#8 b1 b2 = .stxZp b1 := rfl
theorem decodeBytes_87 (b1 b2 : Byte) : decodeBytes 0x87#8 b1 b2 = .illSax87 b1 := rfl
theorem decodeBytes_88 (b1 b2 : Byte) : decodeBytes 0x88#8 b1 b2 = .dey := rfl
theorem decodeBytes_89 (b1 b2 : Byte) : decodeBytes 0x89#8 b1 b2 = .illNop89 b1 := rfl
theorem decodeBytes_8A (b1 b2 : Byte) : decodeBytes 0x8A#8 b1 b2 = .txa := rfl
theorem decodeBytes_8B (b1 b2 : Byte) : decodeBytes 0x8B#8 b1 b2 = .illAne8B b1 := rfl
theorem decodeBytes_8C (b1 b2 : Byte) : decodeBytes 0x8C#8 b1 b2 = .styAbs (wordOfBytes b2 b1) := rfl
theorem decodeBytes_8D (b1 b2 : Byte) : decodeBytes 0x8D#8 b1 b2 = .staAbs (wordOfBytes b2 b1) := rfl
theorem decodeBytes_8E (b1 b2 : Byte) : decodeBytes 0x8E#8 b1 b2 = .stxAbs (wordOfBytes b2 b1) := rfl
theorem decodeBytes_8F (b1 b2 : Byte) : decodeBytes 0x8F#8 b1 b2 = .illSax8F (wordOfBytes b2 b1) := rfl
theorem decodeBytes_90 (b1 b2 : Byte) : decodeBytes 0x90#8 b1 b2 = .bcc b1 := rfl
theorem decodeBytes_91 (b1 b2 : Byte) : decodeBytes 0x91#8 b1 b2 = .staIzy b1 := rfl
theorem decodeBytes_92 (b1 b2 : Byte) : decodeBytes 0x92#8 b1 b2 = .illKil92 := rfl
theorem decodeBytes_93 (b1 b2 : Byte) : decodeBytes 0x93#8 b1 b2 = .illSha93 b1 := rfl
theorem decodeBytes_94 (b1 b2 : Byte) : decodeBytes 0x94#8 b1 b2 = .styZpx b1 := rfl
theorem decodeBytes_95 (b1 b2 : Byte) : decodeBytes 0x95#8 b1 b2 = .staZpx b1 := rfl
theorem decodeBytes_96 (b1 b2 : Byte) : decodeBytes 0x96#8 b1 b2 = .stxZpy b1 := rfl
theorem decodeBytes_97 (b1 b2 : Byte) : decodeBytes 0x97#8 b1 b2 = .illSax97 b1 := rfl
theorem decodeBytes_98 (b1 b2 : Byte) : decodeBytes 0x98#8 b1 b2 = .tya := rfl
theorem decodeBytes_99 (b1 b2 : Byte) : decodeBytes 0x99#8 b1 b2 = .staAby (wordOfBytes b2 b1) := rfl
theorem decodeBytes_9A (b1 b2 : Byte) : decodeBytes 0x9A#8 b1 b2 = .txs := rfl
theorem decodeBytes_9B (b1 b2 : Byte) : decodeBytes 0x9B#8 b1 b2 = .illTas9B (wordOfBytes b2 b1) := rfl
theorem decodeBytes_9C (b1 b2 : Byte) : decodeBytes 0x9C#8 b1 b2 = .illShy9C (wordOfBytes b2 b1) := rfl
theorem decodeBytes_9D (b1 b2 : Byte) : decodeBytes 0x9D#8 b1 b2 = .staAbx (wordOfBytes b2 b1) := rfl
theorem decodeBytes_9E (b1 b2 : Byte) : decodeBytes 0x9E#8 b1 b2 = .illShx9E (wordOfBytes b2 b1) := rfl
theorem decodeBytes_9F (b1 b2 : Byte) : decodeBytes 0x9F#8 b1 b2 = .illSha9F (wordOfBytes b2 b1) := rfl
theorem decodeBytes_A0 (b1 b2 : Byte) : decodeBytes 0xA0#8 b1 b2 = .ldyImm b1 := rfl
theorem decodeBytes_A1 (b1 b2 : Byte) : decodeBytes 0xA1#8 b1 b2 = .ldaIzx b1 := rfl
theorem decodeBytes_A2 (b1 b2 : Byte) : decodeBytes 0xA2#8 b1 b2 = .ldxImm b1 := rfl
theorem decodeBytes_A3 (b1 b2 : Byte) : decodeBytes 0xA3#8 b1 b2 = .illLaxA3 b1 := rfl
theorem decodeBytes_A4 (b1 b2 : Byte) : decodeBytes 0xA4#8 b1 b2 = .ldyZp b1 := rfl
theorem decodeBytes_A5 (b1 b2 : Byte) : decodeBytes 0xA5#8 b1 b2 = .ldaZp b1 := rfl
theorem decodeBytes_A6 (b1 b2 : Byte) : decodeBytes 0xA6#8 b1 b2 = .ldxZp b1 := rfl
theorem decodeBytes_A7 (b1 b2 : Byte) : decodeBytes 0xA7#8 b1 b2 = .illLaxA7 b1 := rfl
theorem decodeBytes_A8 (b1 b2 : Byte) : decodeBytes 0xA8#8 b1 b2 = .tay := rfl
theorem decodeBytes_A9 (b1 b2 : Byte) : decodeBytes 0xA9#8 b1 b2 = .ldaImm b1 := rfl
theorem decodeBytes_AA (b1 b2 : Byte) : decodeBytes 0xAA#8 b1 b2 = .tax := rfl
theorem decodeBytes_AB (b1 b2 : Byte) : decodeBytes 0xAB#8 b1 b2 = .illLxaAB b1 := rfl
theorem decodeBytes_AC (b1 b2 : Byte) : decodeBytes 0xAC#8 b1 b2 = .ldyAbs (wordOfBytes b2 b1) := rfl
theorem decodeBytes_AD (b1 b2 : Byte) : decodeBytes 0xAD#8 b1 b2 = .ldaAbs (wordOfBytes b2 b1) := rfl
theorem decodeBytes_AE (b1 b2 : Byte) : decodeBytes 0xAE#8 b1 b2 = .ldxAbs (wordOfBytes b2 b1) := rfl
theorem decodeBytes_AF (b1 b2 : Byte) : decodeBytes 0xAF#8 b1 b2 = .illLaxAF (wordOfBytes b2 b1) := rfl
theorem decodeBytes_B0 (b1 b2 : Byte) : decodeBytes 0xB0#8 b1 b2 = .bcs b1 := rfl
theorem decodeBytes_B1 (b1 b2 : Byte) : decodeBytes 0xB1#8 b1 b2 = .ldaIzy b1 := rfl
theorem decodeBytes_B2 (b1 b2 : Byte) : decodeBytes 0xB2#8 b1 b2 = .illKilB2 := rfl
theorem decodeBytes_B3 (b1 b2 : Byte) : decodeBytes 0xB3#8 b1 b2 = .illLaxB3 b1 := rfl
theorem decodeBytes_B4 (b1 b2 : Byte) : decodeBytes 0xB4#8 b1 b2 = .ldyZpx b1 := rfl
theorem decodeBytes_B5 (b1 b2 : Byte) : decodeBytes 0xB5#8 b1 b2 = .ldaZpx b1 := rfl
theorem decodeBytes_B6 (b1 b2 : Byte) : decodeBytes 0xB6#8 b1 b2 = .ldxZpy b1 := rfl
theorem decodeBytes_B7 (b1 b2 : Byte) : decodeBytes 0xB7#8 b1 b2 = .illLaxB7 b1 := rfl
theorem decodeBytes_B8 (b1 b2 : Byte) : decodeBytes 0xB8#8 b1 b2 = .clv := rfl
theorem decodeBytes_B9 (b1 b2 : Byte) : decodeBytes 0xB9#8 b1 b2 = .ldaAby (wordOfBytes b2 b1) := rfl
theorem decodeBytes_BA (b1 b2 : Byte) : decodeBytes 0xBA#8 b1 b2 = .tsx := rfl
theorem decodeBytes_BB (b1 b2 : Byte) : decodeBytes 0xBB#8 b1 b2 = .illLasBB (wordOfBytes b2 b1) := rfl
theorem decodeBytes_BC (b1 b2 : Byte) : decodeBytes 0xBC#8 b1 b2 = .ldyAbx (wordOfBytes b2 b1) := rfl
theorem decodeBytes_BD (b1 b2 : Byte) : decodeBytes 0xBD#8 b1 b2 = .ldaAbx (wordOfBytes b2 b1) := rfl
theorem decodeBytes_BE (b1 b2 : Byte) : decodeBytes 0xBE#8 b1 b2 = .ldxAby (wordOfBytes b2 b1) := rfl
theorem decodeBytes_BF (b1 b2 : Byte) : decodeBytes 0xBF#8 b1 b2 = .illLaxBF (wordOfBytes b2 b1) := rfl
theorem decodeBytes_C0 (b1 b2 : Byte) : decodeBytes 0xC0#8 b1 b2 = .cpyImm b1 := rfl
theorem decodeBytes_C1 (b1 b2 : Byte) : decodeBytes 0xC1#8 b1 b2 = .cmpIzx b1 := rfl
theorem decodeBytes_C2 (b1 b2 : Byte) : decodeBytes 0xC2#8 b1 b2 = .illNopC2 b1 := rfl
theorem decodeBytes_C3 (b1 b2 : Byte) : decodeBytes 0xC3#8 b1 b2 = .illDcpC3 b1 := rfl
theorem decodeBytes_C4 (b1 b2 : Byte) : decodeBytes 0xC4#8 b1 b2 = .cpyZp b1 := rfl
theorem decodeBytes_C5 (b1 b2 : Byte) : decodeBytes 0xC5#8 b1 b2 = .cmpZp b1 := rfl
theorem decodeBytes_C6 (b1 b2 : Byte) : decodeBytes 0xC6#8 b1 b2 = .decZp b1 := rfl
theorem decodeBytes_C7 (b1 b2 : Byte) : decodeBytes 0xC7#8 b1 b2 = .illDcpC7 b1 := rfl
theorem decodeBytes_C8 (b1 b2 : Byte) : decodeBytes 0xC8#8 b1 b2 = .iny := rfl
theorem decodeBytes_C9 (b1 b2 : Byte) : decodeBytes 0xC9#8 b1 b2 = .cmpImm b1 := rfl
theorem decodeBytes_CA (b1 b2 : Byte) : decodeBytes 0xCA#8 b1 b2 = .dex := rfl
theorem decodeBytes_CB (b1 b2 : Byte) : decodeBytes 0xCB#8 b1 b2 = .illSbxCB b1 := rfl
theorem decodeBytes_CC (b1 b2 : Byte) : decodeBytes 0xCC#8 b1 b2 = .cpyAbs (wordOfBytes b2 b1) := rfl
theorem decodeBytes_CD (b1 b2 : Byte) : decodeBytes 0xCD#8 b1 b2 = .cmpAbs (wordOfBytes b2 b1) := rfl
theorem decodeBytes_CE (b1 b2 : Byte) : decodeBytes 0xCE#8 b1 b2 = .decAbs (wordOfBytes b2 b1) := rfl
theorem decodeBytes_CF (b1 b2 : Byte) : decodeBytes 0xCF#8 b1 b2 = .illDcpCF (wordOfBytes b2 b1) := rfl
theorem decodeBytes_D0 (b1 b2 : Byte) : decodeBytes 0xD0#8 b1 b2 = .bne b1 := rfl
theorem decodeBytes_D1 (b1 b2 : Byte) : decodeBytes 0xD1#8 b1 b2 = .cmpIzy b1 := rfl
theorem decodeBytes_D2 (b1 b2 : Byte) : decodeBytes 0xD2#8 b1 b2 = .illKilD2 := rfl
theorem decodeBytes_D3 (b1 b2 : Byte) : decodeBytes 0xD3#8 b1 b2 = .illDcpD3 b1 := rfl
theorem decodeBytes_D4 (b1 b2 : Byte) : decodeBytes 0xD4#8 b1 b2 = .illNopD4 b1 := rfl
theorem decodeBytes_D5 (b1 b2 : Byte) : decodeBytes 0xD5#8 b1 b2 = .cmpZpx b1 := rfl
theorem decodeBytes_D6 (b1 b2 : Byte) : decodeBytes 0xD6#8 b1 b2 = .decZpx b1 := rfl
theorem decodeBytes_D7 (b1 b2 : Byte) : decodeBytes 0xD7#8 b1 b2 = .illDcpD7 b1 := rfl
theorem decodeBytes_D8 (b1 b2 : Byte) : decodeBytes 0xD8#8 b1 b2 = .cld := rfl
theorem decodeBytes_D9 (b1 b2 : Byte) : decodeBytes 0xD9#8 b1 b2 = .cmpAby (wordOfBytes b2 b1) := rfl
theorem decodeBytes_DA (b1 b2 : Byte) : decodeBytes 0xDA#8 b1 b2 = .illNopDA := rfl
theorem decodeBytes_DB (b1 b2 : Byte) : decodeBytes 0xDB#8 b1 b2 = .illDcpDB (wordOfBytes b2 b1) := rfl
theorem decodeBytes_DC (b1 b2 : Byte) : decodeBytes 0xDC#8 b1 b2 = .illNopDC (wordOfBytes b2 b1) := rfl
theorem decodeBytes_DD (b1 b2 : Byte) : decodeBytes 0xDD#8 b1 b2 = .cmpAbx (wordOfBytes b2 b1) := rfl
theorem decodeBytes_DE (b1 b2 : Byte) : decodeBytes 0xDE#8 b1 b2 = .decAbx (wordOfBytes b2 b1) := rfl
theorem decodeBytes_DF (b1 b2 : Byte) : decodeBytes 0xDF#8 b1 b2 = .illDcpDF (wordOfBytes b2 b1) := rfl
theorem decodeBytes_E0 (b1 b2 : Byte) : decodeBytes 0xE0#8 b1 b2 = .cpxImm b1 := rfl
theorem decodeBytes_E1 (b1 b2 : Byte) : decodeBytes 0xE1#8 b1 b2 = .sbcIzx b1 := rfl
theorem decodeBytes_E2 (b1 b2 : Byte) : decodeBytes 0xE2#8 b1 b2 = .illNopE2 b1 := rfl
theorem decodeBytes_E3 (b1 b2 : Byte) : decodeBytes 0xE3#8 b1 b2 = .illIscE3 b1 := rfl
theorem decodeBytes_E4 (b1 b2 : Byte) : decodeBytes 0xE4#8 b1 b2 = .cpxZp b1 := rfl
theorem decodeBytes_E5 (b1 b2 : Byte) : decodeBytes 0xE5#8 b1 b2 = .sbcZp b1 := rfl
theorem decodeBytes_E6 (b1 b2 : Byte) : decodeBytes 0xE6#8 b1 b2 = .incZp b1 := rfl
theorem decodeBytes_E7 (b1 b2 : Byte) : decodeBytes 0xE7#8 b1 b2 = .illIscE7 b1 := rfl
theorem decodeBytes_E8 (b1 b2 : Byte) : decodeBytes 0xE8#8 b1 b2 = .inx := rfl
theorem decodeBytes_E9 (b1 b2 : Byte) : decodeBytes 0xE9#8 b1 b2 = .sbcImm b1 := rfl
theorem decodeBytes_EA (b1 b2 : Byte) : decodeBytes 0xEA#8 b1 b2 = .nop := rfl
theorem decodeBytes_EB (b1 b2 : Byte) : decodeBytes 0xEB#8 b1 b2 = .illUsbcEB b1 := rfl
theorem decodeBytes_EC (b1 b2 : Byte) : decodeBytes 0xEC#8 b1 b2 = .cpxAbs (wordOfBytes b2 b1) := rfl
theorem decodeBytes_ED (b1 b2 : Byte) : decodeBytes 0xED#8 b1 b2 = .sbcAbs (wordOfBytes b2 b1) := rfl
theorem decodeBytes_EE (b1 b2 : Byte) : decodeBytes 0xEE#8 b1 b2 = .incAbs (wordOfBytes b2 b1) := rfl
theorem decodeBytes_EF (b1 b2 : Byte) : decodeBytes 0xEF#8 b1 b2 = .illIscEF (wordOfBytes b2 b1) := rfl
theorem decodeBytes_F0 (b1 b2 : Byte) : decodeBytes 0xF0#8 b1 b2 = .beq b1 := rfl
theorem decodeBytes_F1 (b1 b2 : Byte) : decodeBytes 0xF1#8 b1 b2 = .sbcIzy b1 := rfl
theorem decodeBytes_F2 (b1 b2 : Byte) : decodeBytes 0xF2#8 b1 b2 = .illKilF2 := rfl
theorem decodeBytes_F3 (b1 b2 : Byte) : decodeBytes 0xF3#8 b1 b2 = .illIscF3 b1 := rfl
theorem decodeBytes_F4 (b1 b2 : Byte) : decodeBytes 0xF4#8 b1 b2 = .illNopF4 b1 := rfl
theorem decodeBytes_F5 (b1 b2 : Byte) : decodeBytes 0xF5#8 b1 b2 = .sbcZpx b1 := rfl
theorem decodeBytes_F6 (b1 b2 : Byte) : decodeBytes 0xF6#8 b1 b2 = .incZpx b1 := rfl
theorem decodeBytes_F7 (b1 b2 : Byte) : decodeBytes 0xF7#8 b1 b2 = .illIscF7 b1 := rfl
theorem decodeBytes_F8 (b1 b2 : Byte) : decodeBytes 0xF8#8 b1 b2 = .sed := rfl
theorem decodeBytes_F9 (b1 b2 : Byte) : decodeBytes 0xF9#8 b1 b2 = .sbcAby (wordOfBytes b2 b1) := rfl
theorem decodeBytes_FA (b1 b2 : Byte) : decodeBytes 0xFA#8 b1 b2 = .illNopFA := rfl
theorem decodeBytes_FB (b1 b2 : Byte) : decodeBytes 0xFB#8 b1 b2 = .illIscFB (wordOfBytes b2 b1) := rfl
theorem decodeBytes_FC (b1 b2 : Byte) : decodeBytes 0xFC#8 b1 b2 = .illNopFC (wordOfBytes b2 b1) := rfl
theorem decodeBytes_FD (b1 b2 : Byte) : decodeBytes 0xFD#8 b1 b2 = .sbcAbx (wordOfBytes b2 b1) := rfl
theorem decodeBytes_FE (b1 b2 : Byte) : decodeBytes 0xFE#8 b1 b2 = .incAbx (wordOfBytes b2 b1) := rfl
theorem decodeBytes_FF (b1 b2 : Byte) : decodeBytes 0xFF#8 b1 b2 = .illIscFF (wordOfBytes b2 b1) := rfl

theorem tableRow_00 : tableRow 0x00#8 = ⟨.brk, .implicit, 2, 7, .none, .documented⟩ := rfl
theorem tableRow_01 : tableRow 0x01#8 = ⟨.ora, .indexedIndirectX, 2, 6, .none, .documented⟩ := rfl
theorem tableRow_02 : tableRow 0x02#8 = ⟨.illKil, .implicit, 1, 2, .none, .illegal⟩ := rfl
theorem tableRow_03 : tableRow 0x03#8 = ⟨.illSlo, .indexedIndirectX, 2, 8, .none, .illegal⟩ := rfl
theorem tableRow_04 : tableRow 0x04#8 = ⟨.illNop, .zeroPage, 2, 3, .none, .illegal⟩ := rfl
theorem tableRow_05 : tableRow 0x05#8 = ⟨.ora, .zeroPage, 2, 3, .none, .documented⟩ := rfl
theorem tableRow_06 : tableRow 0x06#8 = ⟨.asl, .zeroPage, 2, 5, .none, .documented⟩ := rfl
theorem tableRow_07 : tableRow 0x07#8 = ⟨.illSlo, .zeroPage, 2, 5, .none, .illegal⟩ := rfl
theorem tableRow_08 : tableRow 0x08#8 = ⟨.php, .implicit, 1, 3, .none, .documented⟩ := rfl
theorem tableRow_09 : tableRow 0x09#8 = ⟨.ora, .immediate, 2, 2, .none, .documented⟩ := rfl
theorem tableRow_0A : tableRow 0x0A#8 = ⟨.asl, .accumulator, 1, 2, .none, .documented⟩ := rfl
theorem tableRow_0B : tableRow 0x0B#8 = ⟨.illAnc, .immediate, 2, 2, .none, .illegal⟩ := rfl
theorem tableRow_0C : tableRow 0x0C#8 = ⟨.illNop, .absolute, 3, 4, .none, .illegal⟩ := rfl
theorem tableRow_0D : tableRow 0x0D#8 = ⟨.ora, .absolute, 3, 4, .none, .documented⟩ := rfl
theorem tableRow_0E : tableRow 0x0E#8 = ⟨.asl, .absolute, 3, 6, .none, .documented⟩ := rfl
theorem tableRow_0F : tableRow 0x0F#8 = ⟨.illSlo, .absolute, 3, 6, .none, .illegal⟩ := rfl
theorem tableRow_10 : tableRow 0x10#8 = ⟨.bpl, .relative, 2, 2, .branch, .documented⟩ := rfl
theorem tableRow_11 : tableRow 0x11#8 = ⟨.ora, .indirectIndexedY, 2, 5, .read, .documented⟩ := rfl
theorem tableRow_12 : tableRow 0x12#8 = ⟨.illKil, .implicit, 1, 2, .none, .illegal⟩ := rfl
theorem tableRow_13 : tableRow 0x13#8 = ⟨.illSlo, .indirectIndexedY, 2, 8, .none, .illegal⟩ := rfl
theorem tableRow_14 : tableRow 0x14#8 = ⟨.illNop, .zeroPageX, 2, 4, .none, .illegal⟩ := rfl
theorem tableRow_15 : tableRow 0x15#8 = ⟨.ora, .zeroPageX, 2, 4, .none, .documented⟩ := rfl
theorem tableRow_16 : tableRow 0x16#8 = ⟨.asl, .zeroPageX, 2, 6, .none, .documented⟩ := rfl
theorem tableRow_17 : tableRow 0x17#8 = ⟨.illSlo, .zeroPageX, 2, 6, .none, .illegal⟩ := rfl
theorem tableRow_18 : tableRow 0x18#8 = ⟨.clc, .implicit, 1, 2, .none, .documented⟩ := rfl
theorem tableRow_19 : tableRow 0x19#8 = ⟨.ora, .absoluteY, 3, 4, .read, .documented⟩ := rfl
theorem tableRow_1A : tableRow 0x1A#8 = ⟨.illNop, .implicit, 1, 2, .none, .illegal⟩ := rfl
theorem tableRow_1B : tableRow 0x1B#8 = ⟨.illSlo, .absoluteY, 3, 7, .none, .illegal⟩ := rfl
theorem tableRow_1C : tableRow 0x1C#8 = ⟨.illNop, .absoluteX, 3, 4, .read, .illegal⟩ := rfl
theorem tableRow_1D : tableRow 0x1D#8 = ⟨.ora, .absoluteX, 3, 4, .read, .documented⟩ := rfl
theorem tableRow_1E : tableRow 0x1E#8 = ⟨.asl, .absoluteX, 3, 7, .none, .documented⟩ := rfl
theorem tableRow_1F : tableRow 0x1F#8 = ⟨.illSlo, .absoluteX, 3, 7, .none, .illegal⟩ := rfl
theorem tableRow_20 : tableRow 0x20#8 = ⟨.jsr, .absolute, 3, 6, .none, .documented⟩ := rfl
theorem tableRow_21 : tableRow 0x21#8 = ⟨.and, .indexedIndirectX, 2, 6, .none, .documented⟩ := rfl
theorem tableRow_22 : tableRow 0x22#8 = ⟨.illKil, .implicit, 1, 2, .none, .illegal⟩ := rfl
theorem tableRow_23 : tableRow 0x23#8 = ⟨.illRla, .indexedIndirectX, 2, 8, .none, .illegal⟩ := rfl
theorem tableRow_24 : tableRow 0x24#8 = ⟨.bit, .zeroPage, 2, 3, .none, .documented⟩ := rfl
theorem tableRow_25 : tableRow 0x25#8 = ⟨.and, .zeroPage, 2, 3, .none, .documented⟩ := rfl
theorem tableRow_26 : tableRow 0x26#8 = ⟨.rol, .zeroPage, 2, 5, .none, .documented⟩ := rfl
theorem tableRow_27 : tableRow 0x27#8 = ⟨.illRla, .zeroPage, 2, 5, .none, .illegal⟩ := rfl
theorem tableRow_28 : tableRow 0x28#8 = ⟨.plp, .implicit, 1, 4, .none, .documented⟩ := rfl
theorem tableRow_29 : tableRow 0x29#8 = ⟨.and, .immediate, 2, 2, .none, .documented⟩ := rfl
theorem tableRow_2A : tableRow 0x2A#8 = ⟨.rol, .accumulator, 1, 2, .none, .documented⟩ := rfl
theorem tableRow_2B : tableRow 0x2B#8 = ⟨.illAnc, .immediate, 2, 2, .none, .illegal⟩ := rfl
theorem tableRow_2C : tableRow 0x2C#8 = ⟨.bit, .absolute, 3, 4, .none, .documented⟩ := rfl
theorem tableRow_2D : tableRow 0x2D#8 = ⟨.and, .absolute, 3, 4, .none, .documented⟩ := rfl
theorem tableRow_2E : tableRow 0x2E#8 = ⟨.rol, .absolute, 3, 6, .none, .documented⟩ := rfl
theorem tableRow_2F : tableRow 0x2F#8 = ⟨.illRla, .absolute, 3, 6, .none, .illegal⟩ := rfl
theorem tableRow_30 : tableRow 0x30#8 = ⟨.bmi, .relative, 2, 2, .branch, .documented⟩ := rfl
theorem tableRow_31 : tableRow 0x31#8 = ⟨.and, .indirectIndexedY, 2, 5, .read, .documented⟩ := rfl
theorem tableRow_32 : tableRow 0x32#8 = ⟨.illKil, .implicit, 1, 2, .none, .illegal⟩ := rfl
theorem tableRow_33 : tableRow 0x33#8 = ⟨.illRla, .indirectIndexedY, 2, 8, .none, .illegal⟩ := rfl
theorem tableRow_34 : tableRow 0x34#8 = ⟨.illNop, .zeroPageX, 2, 4, .none, .illegal⟩ := rfl
theorem tableRow_35 : tableRow 0x35#8 = ⟨.and, .zeroPageX, 2, 4, .none, .documented⟩ := rfl
theorem tableRow_36 : tableRow 0x36#8 = ⟨.rol, .zeroPageX, 2, 6, .none, .documented⟩ := rfl
theorem tableRow_37 : tableRow 0x37#8 = ⟨.illRla, .zeroPageX, 2, 6, .none, .illegal⟩ := rfl
theorem tableRow_38 : tableRow 0x38#8 = ⟨.sec, .implicit, 1, 2, .none, .documented⟩ := rfl
theorem tableRow_39 : tableRow 0x39#8 = ⟨.and, .absoluteY, 3, 4, .read, .documented⟩ := rfl
theorem tableRow_3A : tableRow 0x3A#8 = ⟨.illNop, .implicit, 1, 2, .none, .illegal⟩ := rfl
theorem tableRow_3B : tableRow 0x3B#8 = ⟨.illRla, .absoluteY, 3, 7, .none, .illegal⟩ := rfl
theorem tableRow_3C : tableRow 0x3C#8 = ⟨.illNop, .absoluteX, 3, 4, .read, .illegal⟩ := rfl
theorem tableRow_3D : tableRow 0x3D#8 = ⟨.and, .absoluteX, 3, 4, .read, .documented⟩ := rfl
theorem tableRow_3E : tableRow 0x3E#8 = ⟨.rol, .absoluteX, 3, 7, .none, .documented⟩ := rfl
theorem tableRow_3F : tableRow 0x3F#8 = ⟨.illRla, .absoluteX, 3, 7, .none, .illegal⟩ := rfl
theorem tableRow_40 : tableRow 0x40#8 = ⟨.rti, .implicit, 1, 6, .none, .documented⟩ := rfl
theorem tableRow_41 : tableRow 0x41#8 = ⟨.eor, .indexedIndirectX, 2, 6, .none, .documented⟩ := rfl
theorem tableRow_42 : tableRow 0x42#8 = ⟨.illKil, .implicit, 1, 2, .none, .illegal⟩ := rfl
theorem tableRow_43 : tableRow 0x43#8 = ⟨.illSre, .indexedIndirectX, 2, 8, .none, .illegal⟩ := rfl
theorem tableRow_44 : tableRow 0x44#8 = ⟨.illNop, .zeroPage, 2, 3, .none, .illegal⟩ := rfl
theorem tableRow_45 : tableRow 0x45#8 = ⟨.eor, .zeroPage, 2, 3, .none, .documented⟩ := rfl
theorem tableRow_46 : tableRow 0x46#8 = ⟨.lsr, .zeroPage, 2, 5, .none, .documented⟩ := rfl
theorem tableRow_47 : tableRow 0x47#8 = ⟨.illSre, .zeroPage, 2, 5, .none, .illegal⟩ := rfl
theorem tableRow_48 : tableRow 0x48#8 = ⟨.pha, .implicit, 1, 3, .none, .documented⟩ := rfl
theorem tableRow_49 : tableRow 0x49#8 = ⟨.eor, .immediate, 2, 2, .none, .documented⟩ := rfl
theorem tableRow_4A : tableRow 0x4A#8 = ⟨.lsr, .accumulator, 1, 2, .none, .documented⟩ := rfl
theorem tableRow_4B : tableRow 0x4B#8 = ⟨.illAlr, .immediate, 2, 2, .none, .illegal⟩ := rfl
theorem tableRow_4C : tableRow 0x4C#8 = ⟨.jmp, .absolute, 3, 3, .none, .documented⟩ := rfl
theorem tableRow_4D : tableRow 0x4D#8 = ⟨.eor, .absolute, 3, 4, .none, .documented⟩ := rfl
theorem tableRow_4E : tableRow 0x4E#8 = ⟨.lsr, .absolute, 3, 6, .none, .documented⟩ := rfl
theorem tableRow_4F : tableRow 0x4F#8 = ⟨.illSre, .absolute, 3, 6, .none, .illegal⟩ := rfl
theorem tableRow_50 : tableRow 0x50#8 = ⟨.bvc, .relative, 2, 2, .branch, .documented⟩ := rfl
theorem tableRow_51 : tableRow 0x51#8 = ⟨.eor, .indirectIndexedY, 2, 5, .read, .documented⟩ := rfl
theorem tableRow_52 : tableRow 0x52#8 = ⟨.illKil, .implicit, 1, 2, .none, .illegal⟩ := rfl
theorem tableRow_53 : tableRow 0x53#8 = ⟨.illSre, .indirectIndexedY, 2, 8, .none, .illegal⟩ := rfl
theorem tableRow_54 : tableRow 0x54#8 = ⟨.illNop, .zeroPageX, 2, 4, .none, .illegal⟩ := rfl
theorem tableRow_55 : tableRow 0x55#8 = ⟨.eor, .zeroPageX, 2, 4, .none, .documented⟩ := rfl
theorem tableRow_56 : tableRow 0x56#8 = ⟨.lsr, .zeroPageX, 2, 6, .none, .documented⟩ := rfl
theorem tableRow_57 : tableRow 0x57#8 = ⟨.illSre, .zeroPageX, 2, 6, .none, .illegal⟩ := rfl
theorem tableRow_58 : tableRow 0x58#8 = ⟨.cli, .implicit, 1, 2, .none, .documented⟩ := rfl
theorem tableRow_59 : tableRow 0x59#8 = ⟨.eor, .absoluteY, 3, 4, .read, .documented⟩ := rfl
theorem tableRow_5A : tableRow 0x5A#8 = ⟨.illNop, .implicit, 1, 2, .none, .illegal⟩ := rfl
theorem tableRow_5B : tableRow 0x5B#8 = ⟨.illSre, .absoluteY, 3, 7, .none, .illegal⟩ := rfl
theorem tableRow_5C : tableRow 0x5C#8 = ⟨.illNop, .absoluteX, 3, 4, .read, .illegal⟩ := rfl
theorem tableRow_5D : tableRow 0x5D#8 = ⟨.eor, .absoluteX, 3, 4, .read, .documented⟩ := rfl
theorem tableRow_5E : tableRow 0x5E#8 = ⟨.lsr, .absoluteX, 3, 7, .none, .documented⟩ := rfl
theorem tableRow_5F : tableRow 0x5F#8 = ⟨.illSre, .absoluteX, 3, 7, .none, .illegal⟩ := rfl
theorem tableRow_60 : tableRow 0x60#8 = ⟨.rts, .implicit, 1, 6, .none, .documented⟩ := rfl
theorem tableRow_61 : tableRow 0x61#8 = ⟨.adc, .indexedIndirectX, 2, 6, .none, .documented⟩ := rfl
theorem tableRow_62 : tableRow 0x62#8 = ⟨.illKil, .implicit, 1, 2, .none, .illegal⟩ := rfl
theorem tableRow_63 : tableRow 0x63#8 = ⟨.illRra, .indexedIndirectX, 2, 8, .none, .illegal⟩ := rfl
theorem tableRow_64 : tableRow 0x64#8 = ⟨.illNop, .zeroPage, 2, 3, .none, .illegal⟩ := rfl
theorem tableRow_65 : tableRow 0x65#8 = ⟨.adc, .zeroPage, 2, 3, .none, .documented⟩ := rfl
theorem tableRow_66 : tableRow 0x66#8 = ⟨.ror, .zeroPage, 2, 5, .none, .documented⟩ := rfl
theorem tableRow_67 : tableRow 0x67#8 = ⟨.illRra, .zeroPage, 2, 5, .none, .illegal⟩ := rfl
theorem tableRow_68 : tableRow 0x68#8 = ⟨.pla, .implicit, 1, 4, .none, .documented⟩ := rfl
theorem tableRow_69 : tableRow 0x69#8 = ⟨.adc, .immediate, 2, 2, .none, .documented⟩ := rfl
theorem tableRow_6A : tableRow 0x6A#8 = ⟨.ror, .accumulator, 1, 2, .none, .documented⟩ := rfl
theorem tableRow_6B : tableRow 0x6B#8 = ⟨.illArr, .immediate, 2, 2, .none, .illegal⟩ := rfl
theorem tableRow_6C : tableRow 0x6C#8 = ⟨.jmp, .indirect, 3, 5, .none, .documented⟩ := rfl
theorem tableRow_6D : tableRow 0x6D#8 = ⟨.adc, .absolute, 3, 4, .none, .documented⟩ := rfl
theorem tableRow_6E : tableRow 0x6E#8 = ⟨.ror, .absolute, 3, 6, .none, .documented⟩ := rfl
theorem tableRow_6F : tableRow 0x6F#8 = ⟨.illRra, .absolute, 3, 6, .none, .illegal⟩ := rfl
theorem tableRow_70 : tableRow 0x70#8 = ⟨.bvs, .relative, 2, 2, .branch, .documented⟩ := rfl
theorem tableRow_71 : tableRow 0x71#8 = ⟨.adc, .indirectIndexedY, 2, 5, .read, .documented⟩ := rfl
theorem tableRow_72 : tableRow 0x72#8 = ⟨.illKil, .implicit, 1, 2, .none, .illegal⟩ := rfl
theorem tableRow_73 : tableRow 0x73#8 = ⟨.illRra, .indirectIndexedY, 2, 8, .none, .illegal⟩ := rfl
theorem tableRow_74 : tableRow 0x74#8 = ⟨.illNop, .zeroPageX, 2, 4, .none, .illegal⟩ := rfl
theorem tableRow_75 : tableRow 0x75#8 = ⟨.adc, .zeroPageX, 2, 4, .none, .documented⟩ := rfl
theorem tableRow_76 : tableRow 0x76#8 = ⟨.ror, .zeroPageX, 2, 6, .none, .documented⟩ := rfl
theorem tableRow_77 : tableRow 0x77#8 = ⟨.illRra, .zeroPageX, 2, 6, .none, .illegal⟩ := rfl
theorem tableRow_78 : tableRow 0x78#8 = ⟨.sei, .implicit, 1, 2, .none, .documented⟩ := rfl
theorem tableRow_79 : tableRow 0x79#8 = ⟨.adc, .absoluteY, 3, 4, .read, .documented⟩ := rfl
theorem tableRow_7A : tableRow 0x7A#8 = ⟨.illNop, .implicit, 1, 2, .none, .illegal⟩ := rfl
theorem tableRow_7B : tableRow 0x7B#8 = ⟨.illRra, .absoluteY, 3, 7, .none, .illegal⟩ := rfl
theorem tableRow_7C : tableRow 0x7C#8 = ⟨.illNop, .absoluteX, 3, 4, .read, .illegal⟩ := rfl
theorem tableRow_7D : tableRow 0x7D#8 = ⟨.adc, .absoluteX, 3, 4, .read, .documented⟩ := rfl
theorem tableRow_7E : tableRow 0x7E#8 = ⟨.ror, .absoluteX, 3, 7, .none, .documented⟩ := rfl
theorem tableRow_7F : tableRow 0x7F#8 = ⟨.illRra, .absoluteX, 3, 7, .none, .illegal⟩ := rfl
theorem tableRow_80 : tableRow 0x80#8 = ⟨.illNop, .immediate, 2, 2, .none, .illegal⟩ := rfl
theorem tableRow_81 : tableRow 0x81#8 = ⟨.sta, .indexedIndirectX, 2, 6, .none, .documented⟩ := rfl
theorem tableRow_82 : tableRow 0x82#8 = ⟨.illNop, .immediate, 2, 2, .none, .illegal⟩ := rfl
theorem tableRow_83 : tableRow 0x83#8 = ⟨.illSax, .indexedIndirectX, 2, 6, .none, .illegal⟩ := rfl
theorem tableRow_84 : tableRow 0x84#8 = ⟨.sty, .zeroPage, 2, 3, .none, .documented⟩ := rfl
theorem tableRow_85 : tableRow 0x85#8 = ⟨.sta, .zeroPage, 2, 3, .none, .documented⟩ := rfl
theorem tableRow_86 : tableRow 0x86#8 = ⟨.stx, .zeroPage, 2, 3, .none, .documented⟩ := rfl
theorem tableRow_87 : tableRow 0x87#8 = ⟨.illSax, .zeroPage, 2, 3, .none, .illegal⟩ := rfl
theorem tableRow_88 : tableRow 0x88#8 = ⟨.dey, .implicit, 1, 2, .none, .documented⟩ := rfl
theorem tableRow_89 : tableRow 0x89#8 = ⟨.illNop, .immediate, 2, 2, .none, .illegal⟩ := rfl
theorem tableRow_8A : tableRow 0x8A#8 = ⟨.txa, .implicit, 1, 2, .none, .documented⟩ := rfl
theorem tableRow_8B : tableRow 0x8B#8 = ⟨.illAne, .immediate, 2, 2, .none, .illegal⟩ := rfl
theorem tableRow_8C : tableRow 0x8C#8 = ⟨.sty, .absolute, 3, 4, .none, .documented⟩ := rfl
theorem tableRow_8D : tableRow 0x8D#8 = ⟨.sta, .absolute, 3, 4, .none, .documented⟩ := rfl
theorem tableRow_8E : tableRow 0x8E#8 = ⟨.stx, .absolute, 3, 4, .none, .documented⟩ := rfl
theorem tableRow_8F : tableRow 0x8F#8 = ⟨.illSax, .absolute, 3, 4, .none, .illegal⟩ := rfl
theorem tableRow_90 : tableRow 0x90#8 = ⟨.bcc, .relative, 2, 2, .branch, .documented⟩ := rfl
theorem tableRow_91 : tableRow 0x91#8 = ⟨.sta, .indirectIndexedY, 2, 6, .none, .documented⟩ := rfl
theorem tableRow_92 : tableRow 0x92#8 = ⟨.illKil, .implicit, 1, 2, .none, .illegal⟩ := rfl
theorem tableRow_93 : tableRow 0x93#8 = ⟨.illSha, .indirectIndexedY, 2, 6, .none, .illegal⟩ := rfl
theorem tableRow_94 : tableRow 0x94#8 = ⟨.sty, .zeroPageX, 2, 4, .none, .documented⟩ := rfl
theorem tableRow_95 : tableRow 0x95#8 = ⟨.sta, .zeroPageX, 2, 4, .none, .documented⟩ := rfl
theorem tableRow_96 : tableRow 0x96#8 = ⟨.stx, .zeroPageY, 2, 4, .none, .documented⟩ := rfl
theorem tableRow_97 : tableRow 0x97#8 = ⟨.illSax, .zeroPageY, 2, 4, .none, .illegal⟩ := rfl
theorem tableRow_98 : tableRow 0x98#8 = ⟨.tya, .implicit, 1, 2, .none, .documented⟩ := rfl
theorem tableRow_99 : tableRow 0x99#8 = ⟨.sta, .absoluteY, 3, 5, .none, .documented⟩ := rfl
theorem tableRow_9A : tableRow 0x9A#8 = ⟨.txs, .implicit, 1, 2, .none, .documented⟩ := rfl
theorem tableRow_9B : tableRow 0x9B#8 = ⟨.illTas, .absoluteY, 3, 5, .none, .illegal⟩ := rfl
theorem tableRow_9C : tableRow 0x9C#8 = ⟨.illShy, .absoluteX, 3, 5, .none, .illegal⟩ := rfl
theorem tableRow_9D : tableRow 0x9D#8 = ⟨.sta, .absoluteX, 3, 5, .none, .documented⟩ := rfl
theorem tableRow_9E : tableRow 0x9E#8 = ⟨.illShx, .absoluteY, 3, 5, .none, .illegal⟩ := rfl
theorem tableRow_9F : tableRow 0x9F#8 = ⟨.illSha, .absoluteY, 3, 5, .none, .illegal⟩ := rfl
theorem tableRow_A0 : tableRow 0xA0#8 = ⟨.ldy, .immediate, 2, 2, .none, .documented⟩ := rfl
theorem tableRow_A1 : tableRow 0xA1#8 = ⟨.lda, .indexedIndirectX, 2, 6, .none, .documented⟩ := rfl
theorem tableRow_A2 : tableRow 0xA2#8 = ⟨.ldx, .immediate, 2, 2, .none, .documented⟩ := rfl
theorem tableRow_A3 : tableRow 0xA3#8 = ⟨.illLax, .indexedIndirectX, 2, 6, .none, .illegal⟩ := rfl
theorem tableRow_A4 : tableRow 0xA4#8 = ⟨.ldy, .zeroPage, 2, 3, .none, .documented⟩ := rfl
theorem tableRow_A5 : tableRow 0xA5#8 = ⟨.lda, .zeroPage, 2, 3, .none, .documented⟩ := rfl
theorem tableRow_A6 : tableRow 0xA6#8 = ⟨.ldx, .zeroPage, 2, 3, .none, .documented⟩ := rfl
theorem tableRow_A7 : tableRow 0xA7#8 = ⟨.illLax, .zeroPage, 2, 3, .none, .illegal⟩ := rfl
theorem tableRow_A8 : tableRow 0xA8#8 = ⟨.tay, .implicit, 1, 2, .none, .documented⟩ := rfl
theorem tableRow_A9 : tableRow 0xA9#8 = ⟨.lda, .immediate, 2, 2, .none, .documented⟩ := rfl
theorem tableRow_AA : tableRow 0xAA#8 = ⟨.tax, .implicit, 1, 2, .none, .documented⟩ := rfl
theorem tableRow_AB : tableRow 0xAB#8 = ⟨.illLxa, .immediate, 2, 2, .none, .illegal⟩ := rfl
theorem tableRow_AC : tableRow 0xAC#8 = ⟨.ldy, .absolute, 3, 4, .none, .documented⟩ := rfl
theorem tableRow_AD : tableRow 0xAD#8 = ⟨.lda, .absolute, 3, 4, .none, .documented⟩ := rfl
theorem tableRow_AE : tableRow 0xAE#8 = ⟨.ldx, .absolute, 3, 4, .none, .documented⟩ := rfl
theorem tableRow_AF : tableRow 0xAF#8 = ⟨.illLax, .absolute, 3, 4, .none, .illegal⟩ := rfl
theorem tableRow_B0 : tableRow 0xB0#8 = ⟨.bcs, .relative, 2, 2, .branch, .documented⟩ := rfl
theorem tableRow_B1 : tableRow 0xB1#8 = ⟨.lda, .indirectIndexedY, 2, 5, .read, .documented⟩ := rfl
theorem tableRow_B2 : tableRow 0xB2#8 = ⟨.illKil, .implicit, 1, 2, .none, .illegal⟩ := rfl
theorem tableRow_B3 : tableRow 0xB3#8 = ⟨.illLax, .indirectIndexedY, 2, 5, .read, .illegal⟩ := rfl
theorem tableRow_B4 : tableRow 0xB4#8 = ⟨.ldy, .zeroPageX, 2, 4, .none, .documented⟩ := rfl
theorem tableRow_B5 : tableRow 0xB5#8 = ⟨.lda, .zeroPageX, 2, 4, .none, .documented⟩ := rfl
theorem tableRow_B6 : tableRow 0xB6#8 = ⟨.ldx, .zeroPageY, 2, 4, .none, .documented⟩ := rfl
theorem tableRow_B7 : tableRow 0xB7#8 = ⟨.illLax, .zeroPageY, 2, 4, .none, .illegal⟩ := rfl
theorem tableRow_B8 : tableRow 0xB8#8 = ⟨.clv, .implicit, 1, 2, .none, .documented⟩ := rfl
theorem tableRow_B9 : tableRow 0xB9#8 = ⟨.lda, .absoluteY, 3, 4, .read, .documented⟩ := rfl
theorem tableRow_BA : tableRow 0xBA#8 = ⟨.tsx, .implicit, 1, 2, .none, .documented⟩ := rfl
theorem tableRow_BB : tableRow 0xBB#8 = ⟨.illLas, .absoluteY, 3, 4, .read, .illegal⟩ := rfl
theorem tableRow_BC : tableRow 0xBC#8 = ⟨.ldy, .absoluteX, 3, 4, .read, .documented⟩ := rfl
theorem tableRow_BD : tableRow 0xBD#8 = ⟨.lda, .absoluteX, 3, 4, .read, .documented⟩ := rfl
theorem tableRow_BE : tableRow 0xBE#8 = ⟨.ldx, .absoluteY, 3, 4, .read, .documented⟩ := rfl
theorem tableRow_BF : tableRow 0xBF#8 = ⟨.illLax, .absoluteY, 3, 4, .read, .illegal⟩ := rfl
theorem tableRow_C0 : tableRow 0xC0#8 = ⟨.cpy, .immediate, 2, 2, .none, .documented⟩ := rfl
theorem tableRow_C1 : tableRow 0xC1#8 = ⟨.cmp, .indexedIndirectX, 2, 6, .none, .documented⟩ := rfl
theorem tableRow_C2 : tableRow 0xC2#8 = ⟨.illNop, .immediate, 2, 2, .none, .illegal⟩ := rfl
theorem tableRow_C3 : tableRow 0xC3#8 = ⟨.illDcp, .indexedIndirectX, 2, 8, .none, .illegal⟩ := rfl
theorem tableRow_C4 : tableRow 0xC4#8 = ⟨.cpy, .zeroPage, 2, 3, .none, .documented⟩ := rfl
theorem tableRow_C5 : tableRow 0xC5#8 = ⟨.cmp, .zeroPage, 2, 3, .none, .documented⟩ := rfl
theorem tableRow_C6 : tableRow 0xC6#8 = ⟨.dec, .zeroPage, 2, 5, .none, .documented⟩ := rfl
theorem tableRow_C7 : tableRow 0xC7#8 = ⟨.illDcp, .zeroPage, 2, 5, .none, .illegal⟩ := rfl
theorem tableRow_C8 : tableRow 0xC8#8 = ⟨.iny, .implicit, 1, 2, .none, .documented⟩ := rfl
theorem tableRow_C9 : tableRow 0xC9#8 = ⟨.cmp, .immediate, 2, 2, .none, .documented⟩ := rfl
theorem tableRow_CA : tableRow 0xCA#8 = ⟨.dex, .implicit, 1, 2, .none, .documented⟩ := rfl
theorem tableRow_CB : tableRow 0xCB#8 = ⟨.illSbx, .immediate, 2, 2, .none, .illegal⟩ := rfl
theorem tableRow_CC : tableRow 0xCC#8 = ⟨.cpy, .absolute, 3, 4, .none, .documented⟩ := rfl
theorem tableRow_CD : tableRow 0xCD#8 = ⟨.cmp, .absolute, 3, 4, .none, .documented⟩ := rfl
theorem tableRow_CE : tableRow 0xCE#8 = ⟨.dec, .absolute, 3, 6, .none, .documented⟩ := rfl
theorem tableRow_CF : tableRow 0xCF#8 = ⟨.illDcp, .absolute, 3, 6, .none, .illegal⟩ := rfl
theorem tableRow_D0 : tableRow 0xD0#8 = ⟨.bne, .relative, 2, 2, .branch, .documented⟩ := rfl
theorem tableRow_D1 : tableRow 0xD1#8 = ⟨.cmp, .indirectIndexedY, 2, 5, .read, .documented⟩ := rfl
theorem tableRow_D2 : tableRow 0xD2#8 = ⟨.illKil, .implicit, 1, 2, .none, .illegal⟩ := rfl
theorem tableRow_D3 : tableRow 0xD3#8 = ⟨.illDcp, .indirectIndexedY, 2, 8, .none, .illegal⟩ := rfl
theorem tableRow_D4 : tableRow 0xD4#8 = ⟨.illNop, .zeroPageX, 2, 4, .none, .illegal⟩ := rfl
theorem tableRow_D5 : tableRow 0xD5#8 = ⟨.cmp, .zeroPageX, 2, 4, .none, .documented⟩ := rfl
theorem tableRow_D6 : tableRow 0xD6#8 = ⟨.dec, .zeroPageX, 2, 6, .none, .documented⟩ := rfl
theorem tableRow_D7 : tableRow 0xD7#8 = ⟨.illDcp, .zeroPageX, 2, 6, .none, .illegal⟩ := rfl
theorem tableRow_D8 : tableRow 0xD8#8 = ⟨.cld, .implicit, 1, 2, .none, .documented⟩ := rfl
theorem tableRow_D9 : tableRow 0xD9#8 = ⟨.cmp, .absoluteY, 3, 4, .read, .documented⟩ := rfl
theorem tableRow_DA : tableRow 0xDA#8 = ⟨.illNop, .implicit, 1, 2, .none, .illegal⟩ := rfl
theorem tableRow_DB : tableRow 0xDB#8 = ⟨.illDcp, .absoluteY, 3, 7, .none, .illegal⟩ := rfl
theorem tableRow_DC : tableRow 0xDC#8 = ⟨.illNop, .absoluteX, 3, 4, .read, .illegal⟩ := rfl
theorem tableRow_DD : tableRow 0xDD#8 = ⟨.cmp, .absoluteX, 3, 4, .read, .documented⟩ := rfl
theorem tableRow_DE : tableRow 0xDE#8 = ⟨.dec, .absoluteX, 3, 7, .none, .documented⟩ := rfl
theorem tableRow_DF : tableRow 0xDF#8 = ⟨.illDcp, .absoluteX, 3, 7, .none, .illegal⟩ := rfl
theorem tableRow_E0 : tableRow 0xE0#8 = ⟨.cpx, .immediate, 2, 2, .none, .documented⟩ := rfl
theorem tableRow_E1 : tableRow 0xE1#8 = ⟨.sbc, .indexedIndirectX, 2, 6, .none, .documented⟩ := rfl
theorem tableRow_E2 : tableRow 0xE2#8 = ⟨.illNop, .immediate, 2, 2, .none, .illegal⟩ := rfl
theorem tableRow_E3 : tableRow 0xE3#8 = ⟨.illIsc, .indexedIndirectX, 2, 8, .none, .illegal⟩ := rfl
theorem tableRow_E4 : tableRow 0xE4#8 = ⟨.cpx, .zeroPage, 2, 3, .none, .documented⟩ := rfl
theorem tableRow_E5 : tableRow 0xE5#8 = ⟨.sbc, .zeroPage, 2, 3, .none, .documented⟩ := rfl
theorem tableRow_E6 : tableRow 0xE6#8 = ⟨.inc, .zeroPage, 2, 5, .none, .documented⟩ := rfl
theorem tableRow_E7 : tableRow 0xE7#8 = ⟨.illIsc, .zeroPage, 2, 5, .none, .illegal⟩ := rfl
theorem tableRow_E8 : tableRow 0xE8#8 = ⟨.inx, .implicit, 1, 2, .none, .documented⟩ := rfl
theorem tableRow_E9 : tableRow 0xE9#8 = ⟨.sbc, .immediate, 2, 2, .none, .documented⟩ := rfl
theorem tableRow_EA : tableRow 0xEA#8 = ⟨.nop, .implicit, 1, 2, .none, .documented⟩ := rfl
theorem tableRow_EB : tableRow 0xEB#8 = ⟨.illUsbc, .immediate, 2, 2, .none, .illegal⟩ := rfl
theorem tableRow_EC : tableRow 0xEC#8 = ⟨.cpx, .absolute, 3, 4, .none, .documented⟩ := rfl
theorem tableRow_ED : tableRow 0xED#8 = ⟨.sbc, .absolute, 3, 4, .none, .documented⟩ := rfl
theorem tableRow_EE : tableRow 0xEE#8 = ⟨.inc, .absolute, 3, 6, .none, .documented⟩ := rfl
theorem tableRow_EF : tableRow 0xEF#8 = ⟨.illIsc, .absolute, 3, 6, .none, .illegal⟩ := rfl
theorem tableRow_F0 : tableRow 0xF0#8 = ⟨.beq, .relative, 2, 2, .branch, .documented⟩ := rfl
theorem tableRow_F1 : tableRow 0xF1#8 = ⟨.sbc, .indirectIndexedY, 2, 5, .read, .documented⟩ := rfl
theorem tableRow_F2 : tableRow 0xF2#8 = ⟨.illKil, .implicit, 1, 2, .none, .illegal⟩ := rfl
theorem tableRow_F3 : tableRow 0xF3#8 = ⟨.illIsc, .indirectIndexedY, 2, 8, .none, .illegal⟩ := rfl
theorem tableRow_F4 : tableRow 0xF4#8 = ⟨.illNop, .zeroPageX, 2, 4, .none, .illegal⟩ := rfl
theorem tableRow_F5 : tableRow 0xF5#8 = ⟨.sbc, .zeroPageX, 2, 4, .none, .documented⟩ := rfl
theorem tableRow_F6 : tableRow 0xF6#8 = ⟨.inc, .zeroPageX, 2, 6, .none, .documented⟩ := rfl
theorem tableRow_F7 : tableRow 0xF7#8 = ⟨.illIsc, .zeroPageX, 2, 6, .none, .illegal⟩ := rfl
theorem tableRow_F8 : tableRow 0xF8#8 = ⟨.sed, .implicit, 1, 2, .none, .documented⟩ := rfl
theorem tableRow_F9 : tableRow 0xF9#8 = ⟨.sbc, .absoluteY, 3, 4, .read, .documented⟩ := rfl
theorem tableRow_FA : tableRow 0xFA#8 = ⟨.illNop, .implicit, 1, 2, .none, .illegal⟩ := rfl
theorem tableRow_FB : tableRow 0xFB#8 = ⟨.illIsc, .absoluteY, 3, 7, .none, .illegal⟩ := rfl
theorem tableRow_FC : tableRow 0xFC#8 = ⟨.illNop, .absoluteX, 3, 4, .read, .illegal⟩ := rfl
theorem tableRow_FD : tableRow 0xFD#8 = ⟨.sbc, .absoluteX, 3, 4, .read, .documented⟩ := rfl
theorem tableRow_FE : tableRow 0xFE#8 = ⟨.inc, .absoluteX, 3, 7, .none, .documented⟩ := rfl
theorem tableRow_FF : tableRow 0xFF#8 = ⟨.illIsc, .absoluteX, 3, 7, .none, .illegal⟩ := rfl

/-- An instruction is well formed when the row found at its opcode byte agrees with it. -/
theorem wellFormed_of_row {i : Instr} {op : Byte} {row : Row} (hop : i.opcode = op) (hrow : tableRow op = row)
    (hm : row.mnemonic = i.mnemonic) (hmode : row.mode = operandMode i.operand)
    (hsize : hasLength (encode i) row.size = true) : i.wellFormed = true := by
  subst hop hrow
  simp [Instr.wellFormed, hm, hmode, hsize]

end Sys2Proof
end

