-- ==== Sys2Proof/Laws/Flags.lean ====
section
/-! SUPPORT. The flag computations: each flag each of them leaves, and their agreement with the rules. -/

namespace Sys2Proof.Machine

open Sys2Proof.Rules

@[simp] theorem setZN_c (v : Byte) (p : Flags) : (setZN v p).c = p.c := rfl
@[simp] theorem setZN_z (v : Byte) (p : Flags) : (setZN v p).z = (v == 0#8) := rfl
@[simp] theorem setZN_i (v : Byte) (p : Flags) : (setZN v p).i = p.i := rfl
@[simp] theorem setZN_d (v : Byte) (p : Flags) : (setZN v p).d = p.d := rfl
@[simp] theorem setZN_b (v : Byte) (p : Flags) : (setZN v p).b = p.b := rfl
@[simp] theorem setZN_u (v : Byte) (p : Flags) : (setZN v p).u = p.u := rfl
@[simp] theorem setZN_v (v : Byte) (p : Flags) : (setZN v p).v = p.v := rfl
@[simp] theorem setZN_n (v : Byte) (p : Flags) : (setZN v p).n = v.getLsbD 7 := rfl

@[simp] theorem unpackP_b (v : Byte) : (unpackP v).b = false := rfl
@[simp] theorem unpackP_u (v : Byte) : (unpackP v).u = true := rfl
@[simp] theorem compareFlags_b (r m : Byte) (p : Flags) : (compareFlags r m p).b = p.b := rfl
@[simp] theorem compareFlags_u (r m : Byte) (p : Flags) : (compareFlags r m p).u = p.u := rfl
@[simp] theorem bitTestFlags_b (a m : Byte) (p : Flags) : (bitTestFlags a m p).b = p.b := rfl
@[simp] theorem bitTestFlags_u (a m : Byte) (p : Flags) : (bitTestFlags a m p).u = p.u := rfl
@[simp] theorem adderFlags_b (a m : Byte) (p : Flags) : (adderFlags a m p).b = p.b := rfl
@[simp] theorem adderFlags_u (a m : Byte) (p : Flags) : (adderFlags a m p).u = p.u := rfl
@[simp] theorem shiftedFlags_b (r : Shifted) (p : Flags) : (shiftedFlags r p).b = p.b := rfl
@[simp] theorem shiftedFlags_u (r : Shifted) (p : Flags) : (shiftedFlags r p).u = p.u := rfl

/-- A bit of a byte as arithmetic. -/
theorem getLsbD_eq_bit (k : Nat) (v : Byte) : v.getLsbD k = bit k v := by
  simp [bit, BitVec.getLsbD, Nat.testBit_eq_decide_div_mod_eq]

/-- Bit 7 as a comparison. -/
theorem getLsbD_seven (v : Byte) : v.getLsbD 7 = decide (128 ≤ v.toNat) := by
  have h := v.isLt
  rw [getLsbD_eq_bit, bit, decide_eq_decide]
  omega

/-- `SetZN` is the rule R40. -/
theorem setZN_eq (v : Byte) (p : Flags) : setZN v p = withZN v p := by
  have h : (v == 0#8) = decide (v.toNat = 0) := by
    rw [Bool.eq_iff_iff, beq_iff_eq, decide_eq_true_eq, ← BitVec.toNat_inj]
    simp
  rw [setZN, withZN, h, getLsbD_seven]

/-- `UnpackP` is the rule R37. -/
theorem unpackP_eq (v : Byte) : unpackP v = restored v := by
  simp only [unpackP, restored, getLsbD_eq_bit]

/-- `PackP` is the rule R36. -/
theorem packP_toNat (b : Bool) (p : Flags) : (packP b p).toNat = statusNumber b true p := by
  obtain ⟨c, z, i, d, b', u, v, n⟩ := p
  have h : ∀ c z i d b v n : Bool, (packP b ⟨c, z, i, d, false, false, v, n⟩).toNat =
      statusNumber b true ⟨c, z, i, d, false, false, v, n⟩ := by decide
  exact h c z i d b v n

/-- The status byte of R27 as a number. -/
theorem flagsByte_toNat (p : Flags) : (flagsByte p).toNat = statusNumber p.b p.u p := by
  obtain ⟨c, z, i, d, b, u, v, n⟩ := p
  have h : ∀ c z i d b u v n : Bool, (flagsByte ⟨c, z, i, d, b, u, v, n⟩).toNat =
      statusNumber b u ⟨c, z, i, d, b, u, v, n⟩ := by decide
  exact h c z i d b u v n

/-- A pushed status byte restores every flag but Break and Unused (R36, R37). -/
theorem unpackP_packP (b : Bool) (p : Flags) : unpackP (packP b p) = { p with b := false, u := true } := by
  obtain ⟨c, z, i, d, b', u, v, n⟩ := p
  have h : ∀ c z i d b v n : Bool, unpackP (packP b ⟨c, z, i, d, false, false, v, n⟩) = ⟨c, z, i, d, false, true, v, n⟩ := by
    decide
  exact h c z i d b v n

end Sys2Proof.Machine
end

