-- ==== Sys2Proof/Laws/Memory.lean ====
section
/-! SUPPORT. The laws of memory: a read after a write, and the canonical form, which every memory operation keeps. -/

namespace Sys2Proof.Machine

theorem readCell_eraseCell (m : Memory) (k j : Nat) :
    readCell (eraseCell m k) j = if j = k then 0#8 else readCell m j := by
  induction m with
  | nil => simp [eraseCell, readCell]
  | cons c m ih =>
    by_cases hk : c.1 = k
    · by_cases hj : j = k
      · subst hj
        simpa [eraseCell, hk] using ih
      · simp [eraseCell, hk, ih, hj, readCell, Ne.symm hj]
    · by_cases hj : c.1 = j
      · subst hj
        simp [eraseCell, hk, readCell]
      · simp [eraseCell, hk, readCell, hj, ih]

theorem readCell_insertCell (m : Memory) (k j : Nat) (v : Byte) :
    readCell (insertCell m k v) j = if j = k then v else readCell m j := by
  induction m with
  | nil => simp [insertCell, readCell, eq_comm]
  | cons c m ih =>
    by_cases hlt : k < c.1
    · simp [insertCell, hlt, readCell, eq_comm]
    · by_cases hk : c.1 = k
      · subst hk
        by_cases hj : j = c.1
        · simp [insertCell, readCell, hj]
        · simp [insertCell, readCell, hj, Ne.symm hj]
      · by_cases hj : c.1 = j
        · subst hj
          simp [insertCell, hlt, hk, readCell]
        · simp [insertCell, hlt, hk, readCell, hj, ih]

theorem toNat_eq_toNat_iff (a b : Word) : a.toNat = b.toNat ↔ a = b := BitVec.toNat_inj

/-- The read of one byte after a write of one byte. -/
theorem Memory.read_write (m : Memory) (a b : Word) (v : Byte) :
    (m.write a v).read b = if b = a then v else m.read b := by
  unfold Memory.read Memory.write
  by_cases hv : v = 0#8
  · simp [hv, readCell_eraseCell, toNat_eq_toNat_iff]
  · simp [hv, readCell_insertCell, toNat_eq_toNat_iff]

@[simp] theorem Memory.read_write_same (m : Memory) (a : Word) (v : Byte) : (m.write a v).read a = v := by
  simp [Memory.read_write]

theorem Memory.read_write_other (m : Memory) {a b : Word} (v : Byte) (h : b ≠ a) : (m.write a v).read b = m.read b := by
  simp [Memory.read_write, h]

@[simp] theorem Memory.read_nil (a : Word) : Memory.read [] a = 0#8 := rfl

theorem cellsFrom_le {lo hi : Nat} {m : Memory} (h : cellsFrom hi m = true) (hle : lo ≤ hi) : cellsFrom lo m = true := by
  cases m with
  | nil => rfl
  | cons c m =>
    simp only [cellsFrom, Bool.and_eq_true, decide_eq_true_eq] at h ⊢
    exact ⟨⟨⟨by omega, h.1.1.2⟩, h.1.2⟩, h.2⟩

theorem cellsFrom_eraseCell {lo : Nat} {m : Memory} (k : Nat) (h : cellsFrom lo m = true) :
    cellsFrom lo (eraseCell m k) = true := by
  induction m generalizing lo with
  | nil => rfl
  | cons c m ih =>
    simp only [cellsFrom, Bool.and_eq_true, decide_eq_true_eq] at h
    by_cases hk : c.1 = k
    · simpa [eraseCell, hk] using ih (cellsFrom_le h.2 (by omega))
    · simp only [eraseCell, hk, if_false, cellsFrom, Bool.and_eq_true, decide_eq_true_eq]
      exact ⟨h.1, ih h.2⟩

theorem cellsFrom_insertCell {lo k : Nat} {m : Memory} {v : Byte} (hlo : lo ≤ k) (hk : k < 65536) (hv : v ≠ 0#8)
    (h : cellsFrom lo m = true) : cellsFrom lo (insertCell m k v) = true := by
  induction m generalizing lo with
  | nil => simp [insertCell, cellsFrom, hlo, hk, hv]
  | cons c m ih =>
    have h' := h
    simp only [cellsFrom, Bool.and_eq_true, decide_eq_true_eq] at h
    by_cases hlt : k < c.1
    · simp only [insertCell, hlt, if_true, cellsFrom, Bool.and_eq_true, decide_eq_true_eq]
      exact ⟨⟨⟨hlo, hk⟩, hv⟩, ⟨⟨⟨by omega, h.1.1.2⟩, h.1.2⟩, h.2⟩⟩
    · by_cases he : c.1 = k
      · subst he
        simp only [insertCell, hlt, if_false, if_true, cellsFrom, Bool.and_eq_true, decide_eq_true_eq]
        exact ⟨⟨⟨hlo, hk⟩, hv⟩, h.2⟩
      · simp only [insertCell, hlt, he, if_false, cellsFrom, Bool.and_eq_true, decide_eq_true_eq]
        exact ⟨h.1, ih (by omega) h.2⟩

/-- Every write keeps the canonical form. -/
theorem Memory.wf_write {m : Memory} (a : Word) (v : Byte) (h : m.wf = true) : (m.write a v).wf = true := by
  unfold Memory.write Memory.wf
  by_cases hv : v = 0#8
  · simpa [hv] using cellsFrom_eraseCell a.toNat h
  · simpa [hv] using cellsFrom_insertCell (Nat.zero_le _) a.isLt hv h

theorem storeByte_wf {m : Memory} (g : Bool) (a : Word) (v : Byte) (h : m.wf = true) : (storeByte g m a v).wf = true := by
  cases g
  · exact Memory.wf_write a v h
  · exact h

theorem storeByte_same (g : Bool) (m : Memory) (a : Word) (v : Byte) :
    (storeByte g m a v).read a = if g then m.read a else v := by
  cases g
  · exact Memory.read_write_same m a v
  · rfl

theorem storeByte_other (g : Bool) (m : Memory) {a b : Word} (v : Byte) (h : b ≠ a) :
    (storeByte g m a v).read b = m.read b := by
  cases g
  · exact Memory.read_write_other m v h
  · rfl

@[simp] theorem Memory.wf_nil : Memory.wf [] = true := rfl

/-- Reset leaves memory in canonical form. -/
theorem State.reset_mem_wf : State.reset.mem.wf = true := rfl

end Sys2Proof.Machine
end

