-- ==== Sys2Proof/Laws/State.lean ====
section
/-! SUPPORT. One lemma per field per register update of `State`, so that no later proof unfolds a record update. -/

namespace Sys2Proof.Machine

@[simp] theorem State.setA_a (v : Byte) (s : State) : (s.setA v).a = v := rfl
@[simp] theorem State.setA_x (v : Byte) (s : State) : (s.setA v).x = s.x := rfl
@[simp] theorem State.setA_y (v : Byte) (s : State) : (s.setA v).y = s.y := rfl
@[simp] theorem State.setA_sp (v : Byte) (s : State) : (s.setA v).sp = s.sp := rfl
@[simp] theorem State.setA_pc (v : Byte) (s : State) : (s.setA v).pc = s.pc := rfl
@[simp] theorem State.setA_p (v : Byte) (s : State) : (s.setA v).p = s.p := rfl
@[simp] theorem State.setA_pendingBranchCycle (v : Byte) (s : State) : (s.setA v).pendingBranchCycle = s.pendingBranchCycle := rfl
@[simp] theorem State.setA_pendingOopsCycle (v : Byte) (s : State) : (s.setA v).pendingOopsCycle = s.pendingOopsCycle := rfl
@[simp] theorem State.setA_pendingNMI (v : Byte) (s : State) : (s.setA v).pendingNMI = s.pendingNMI := rfl
@[simp] theorem State.setA_pendingIRQ (v : Byte) (s : State) : (s.setA v).pendingIRQ = s.pendingIRQ := rfl
@[simp] theorem State.setA_dmaCycles (v : Byte) (s : State) : (s.setA v).dmaCycles = s.dmaCycles := rfl
@[simp] theorem State.setA_cycleCount (v : Byte) (s : State) : (s.setA v).cycleCount = s.cycleCount := rfl
@[simp] theorem State.setA_mem (v : Byte) (s : State) : (s.setA v).mem = s.mem := rfl
@[simp] theorem State.setA_bus (v : Byte) (s : State) : (s.setA v).bus = s.bus := rfl
@[simp] theorem State.setA_stepCycles (v : Byte) (s : State) : (s.setA v).stepCycles = s.stepCycles := rfl
@[simp] theorem State.setA_busLog (v : Byte) (s : State) : (s.setA v).busLog = s.busLog := rfl
@[simp] theorem State.setA_params (v : Byte) (s : State) : (s.setA v).params = s.params := rfl

@[simp] theorem State.setX_a (v : Byte) (s : State) : (s.setX v).a = s.a := rfl
@[simp] theorem State.setX_x (v : Byte) (s : State) : (s.setX v).x = v := rfl
@[simp] theorem State.setX_y (v : Byte) (s : State) : (s.setX v).y = s.y := rfl
@[simp] theorem State.setX_sp (v : Byte) (s : State) : (s.setX v).sp = s.sp := rfl
@[simp] theorem State.setX_pc (v : Byte) (s : State) : (s.setX v).pc = s.pc := rfl
@[simp] theorem State.setX_p (v : Byte) (s : State) : (s.setX v).p = s.p := rfl
@[simp] theorem State.setX_pendingBranchCycle (v : Byte) (s : State) : (s.setX v).pendingBranchCycle = s.pendingBranchCycle := rfl
@[simp] theorem State.setX_pendingOopsCycle (v : Byte) (s : State) : (s.setX v).pendingOopsCycle = s.pendingOopsCycle := rfl
@[simp] theorem State.setX_pendingNMI (v : Byte) (s : State) : (s.setX v).pendingNMI = s.pendingNMI := rfl
@[simp] theorem State.setX_pendingIRQ (v : Byte) (s : State) : (s.setX v).pendingIRQ = s.pendingIRQ := rfl
@[simp] theorem State.setX_dmaCycles (v : Byte) (s : State) : (s.setX v).dmaCycles = s.dmaCycles := rfl
@[simp] theorem State.setX_cycleCount (v : Byte) (s : State) : (s.setX v).cycleCount = s.cycleCount := rfl
@[simp] theorem State.setX_mem (v : Byte) (s : State) : (s.setX v).mem = s.mem := rfl
@[simp] theorem State.setX_bus (v : Byte) (s : State) : (s.setX v).bus = s.bus := rfl
@[simp] theorem State.setX_stepCycles (v : Byte) (s : State) : (s.setX v).stepCycles = s.stepCycles := rfl
@[simp] theorem State.setX_busLog (v : Byte) (s : State) : (s.setX v).busLog = s.busLog := rfl
@[simp] theorem State.setX_params (v : Byte) (s : State) : (s.setX v).params = s.params := rfl

@[simp] theorem State.setY_a (v : Byte) (s : State) : (s.setY v).a = s.a := rfl
@[simp] theorem State.setY_x (v : Byte) (s : State) : (s.setY v).x = s.x := rfl
@[simp] theorem State.setY_y (v : Byte) (s : State) : (s.setY v).y = v := rfl
@[simp] theorem State.setY_sp (v : Byte) (s : State) : (s.setY v).sp = s.sp := rfl
@[simp] theorem State.setY_pc (v : Byte) (s : State) : (s.setY v).pc = s.pc := rfl
@[simp] theorem State.setY_p (v : Byte) (s : State) : (s.setY v).p = s.p := rfl
@[simp] theorem State.setY_pendingBranchCycle (v : Byte) (s : State) : (s.setY v).pendingBranchCycle = s.pendingBranchCycle := rfl
@[simp] theorem State.setY_pendingOopsCycle (v : Byte) (s : State) : (s.setY v).pendingOopsCycle = s.pendingOopsCycle := rfl
@[simp] theorem State.setY_pendingNMI (v : Byte) (s : State) : (s.setY v).pendingNMI = s.pendingNMI := rfl
@[simp] theorem State.setY_pendingIRQ (v : Byte) (s : State) : (s.setY v).pendingIRQ = s.pendingIRQ := rfl
@[simp] theorem State.setY_dmaCycles (v : Byte) (s : State) : (s.setY v).dmaCycles = s.dmaCycles := rfl
@[simp] theorem State.setY_cycleCount (v : Byte) (s : State) : (s.setY v).cycleCount = s.cycleCount := rfl
@[simp] theorem State.setY_mem (v : Byte) (s : State) : (s.setY v).mem = s.mem := rfl
@[simp] theorem State.setY_bus (v : Byte) (s : State) : (s.setY v).bus = s.bus := rfl
@[simp] theorem State.setY_stepCycles (v : Byte) (s : State) : (s.setY v).stepCycles = s.stepCycles := rfl
@[simp] theorem State.setY_busLog (v : Byte) (s : State) : (s.setY v).busLog = s.busLog := rfl
@[simp] theorem State.setY_params (v : Byte) (s : State) : (s.setY v).params = s.params := rfl

@[simp] theorem State.setS_a (v : Byte) (s : State) : (s.setS v).a = s.a := rfl
@[simp] theorem State.setS_x (v : Byte) (s : State) : (s.setS v).x = s.x := rfl
@[simp] theorem State.setS_y (v : Byte) (s : State) : (s.setS v).y = s.y := rfl
@[simp] theorem State.setS_sp (v : Byte) (s : State) : (s.setS v).sp = v := rfl
@[simp] theorem State.setS_pc (v : Byte) (s : State) : (s.setS v).pc = s.pc := rfl
@[simp] theorem State.setS_p (v : Byte) (s : State) : (s.setS v).p = s.p := rfl
@[simp] theorem State.setS_pendingBranchCycle (v : Byte) (s : State) : (s.setS v).pendingBranchCycle = s.pendingBranchCycle := rfl
@[simp] theorem State.setS_pendingOopsCycle (v : Byte) (s : State) : (s.setS v).pendingOopsCycle = s.pendingOopsCycle := rfl
@[simp] theorem State.setS_pendingNMI (v : Byte) (s : State) : (s.setS v).pendingNMI = s.pendingNMI := rfl
@[simp] theorem State.setS_pendingIRQ (v : Byte) (s : State) : (s.setS v).pendingIRQ = s.pendingIRQ := rfl
@[simp] theorem State.setS_dmaCycles (v : Byte) (s : State) : (s.setS v).dmaCycles = s.dmaCycles := rfl
@[simp] theorem State.setS_cycleCount (v : Byte) (s : State) : (s.setS v).cycleCount = s.cycleCount := rfl
@[simp] theorem State.setS_mem (v : Byte) (s : State) : (s.setS v).mem = s.mem := rfl
@[simp] theorem State.setS_bus (v : Byte) (s : State) : (s.setS v).bus = s.bus := rfl
@[simp] theorem State.setS_stepCycles (v : Byte) (s : State) : (s.setS v).stepCycles = s.stepCycles := rfl
@[simp] theorem State.setS_busLog (v : Byte) (s : State) : (s.setS v).busLog = s.busLog := rfl
@[simp] theorem State.setS_params (v : Byte) (s : State) : (s.setS v).params = s.params := rfl

@[simp] theorem State.setPC_a (v : Word) (s : State) : (s.setPC v).a = s.a := rfl
@[simp] theorem State.setPC_x (v : Word) (s : State) : (s.setPC v).x = s.x := rfl
@[simp] theorem State.setPC_y (v : Word) (s : State) : (s.setPC v).y = s.y := rfl
@[simp] theorem State.setPC_sp (v : Word) (s : State) : (s.setPC v).sp = s.sp := rfl
@[simp] theorem State.setPC_pc (v : Word) (s : State) : (s.setPC v).pc = v := rfl
@[simp] theorem State.setPC_p (v : Word) (s : State) : (s.setPC v).p = s.p := rfl
@[simp] theorem State.setPC_pendingBranchCycle (v : Word) (s : State) : (s.setPC v).pendingBranchCycle = s.pendingBranchCycle := rfl
@[simp] theorem State.setPC_pendingOopsCycle (v : Word) (s : State) : (s.setPC v).pendingOopsCycle = s.pendingOopsCycle := rfl
@[simp] theorem State.setPC_pendingNMI (v : Word) (s : State) : (s.setPC v).pendingNMI = s.pendingNMI := rfl
@[simp] theorem State.setPC_pendingIRQ (v : Word) (s : State) : (s.setPC v).pendingIRQ = s.pendingIRQ := rfl
@[simp] theorem State.setPC_dmaCycles (v : Word) (s : State) : (s.setPC v).dmaCycles = s.dmaCycles := rfl
@[simp] theorem State.setPC_cycleCount (v : Word) (s : State) : (s.setPC v).cycleCount = s.cycleCount := rfl
@[simp] theorem State.setPC_mem (v : Word) (s : State) : (s.setPC v).mem = s.mem := rfl
@[simp] theorem State.setPC_bus (v : Word) (s : State) : (s.setPC v).bus = s.bus := rfl
@[simp] theorem State.setPC_stepCycles (v : Word) (s : State) : (s.setPC v).stepCycles = s.stepCycles := rfl
@[simp] theorem State.setPC_busLog (v : Word) (s : State) : (s.setPC v).busLog = s.busLog := rfl
@[simp] theorem State.setPC_params (v : Word) (s : State) : (s.setPC v).params = s.params := rfl

@[simp] theorem State.setP_a (q : Flags) (s : State) : (s.setP q).a = s.a := rfl
@[simp] theorem State.setP_x (q : Flags) (s : State) : (s.setP q).x = s.x := rfl
@[simp] theorem State.setP_y (q : Flags) (s : State) : (s.setP q).y = s.y := rfl
@[simp] theorem State.setP_sp (q : Flags) (s : State) : (s.setP q).sp = s.sp := rfl
@[simp] theorem State.setP_pc (q : Flags) (s : State) : (s.setP q).pc = s.pc := rfl
@[simp] theorem State.setP_p (q : Flags) (s : State) : (s.setP q).p = q := rfl
@[simp] theorem State.setP_pendingBranchCycle (q : Flags) (s : State) : (s.setP q).pendingBranchCycle = s.pendingBranchCycle := rfl
@[simp] theorem State.setP_pendingOopsCycle (q : Flags) (s : State) : (s.setP q).pendingOopsCycle = s.pendingOopsCycle := rfl
@[simp] theorem State.setP_pendingNMI (q : Flags) (s : State) : (s.setP q).pendingNMI = s.pendingNMI := rfl
@[simp] theorem State.setP_pendingIRQ (q : Flags) (s : State) : (s.setP q).pendingIRQ = s.pendingIRQ := rfl
@[simp] theorem State.setP_dmaCycles (q : Flags) (s : State) : (s.setP q).dmaCycles = s.dmaCycles := rfl
@[simp] theorem State.setP_cycleCount (q : Flags) (s : State) : (s.setP q).cycleCount = s.cycleCount := rfl
@[simp] theorem State.setP_mem (q : Flags) (s : State) : (s.setP q).mem = s.mem := rfl
@[simp] theorem State.setP_bus (q : Flags) (s : State) : (s.setP q).bus = s.bus := rfl
@[simp] theorem State.setP_stepCycles (q : Flags) (s : State) : (s.setP q).stepCycles = s.stepCycles := rfl
@[simp] theorem State.setP_busLog (q : Flags) (s : State) : (s.setP q).busLog = s.busLog := rfl
@[simp] theorem State.setP_params (q : Flags) (s : State) : (s.setP q).params = s.params := rfl

@[simp] theorem State.setBranch_a (b : Bool) (s : State) : (s.setBranch b).a = s.a := rfl
@[simp] theorem State.setBranch_x (b : Bool) (s : State) : (s.setBranch b).x = s.x := rfl
@[simp] theorem State.setBranch_y (b : Bool) (s : State) : (s.setBranch b).y = s.y := rfl
@[simp] theorem State.setBranch_sp (b : Bool) (s : State) : (s.setBranch b).sp = s.sp := rfl
@[simp] theorem State.setBranch_pc (b : Bool) (s : State) : (s.setBranch b).pc = s.pc := rfl
@[simp] theorem State.setBranch_p (b : Bool) (s : State) : (s.setBranch b).p = s.p := rfl
@[simp] theorem State.setBranch_pendingBranchCycle (b : Bool) (s : State) : (s.setBranch b).pendingBranchCycle = b := rfl
@[simp] theorem State.setBranch_pendingOopsCycle (b : Bool) (s : State) : (s.setBranch b).pendingOopsCycle = s.pendingOopsCycle := rfl
@[simp] theorem State.setBranch_pendingNMI (b : Bool) (s : State) : (s.setBranch b).pendingNMI = s.pendingNMI := rfl
@[simp] theorem State.setBranch_pendingIRQ (b : Bool) (s : State) : (s.setBranch b).pendingIRQ = s.pendingIRQ := rfl
@[simp] theorem State.setBranch_dmaCycles (b : Bool) (s : State) : (s.setBranch b).dmaCycles = s.dmaCycles := rfl
@[simp] theorem State.setBranch_cycleCount (b : Bool) (s : State) : (s.setBranch b).cycleCount = s.cycleCount := rfl
@[simp] theorem State.setBranch_mem (b : Bool) (s : State) : (s.setBranch b).mem = s.mem := rfl
@[simp] theorem State.setBranch_bus (b : Bool) (s : State) : (s.setBranch b).bus = s.bus := rfl
@[simp] theorem State.setBranch_stepCycles (b : Bool) (s : State) : (s.setBranch b).stepCycles = s.stepCycles := rfl
@[simp] theorem State.setBranch_busLog (b : Bool) (s : State) : (s.setBranch b).busLog = s.busLog := rfl
@[simp] theorem State.setBranch_params (b : Bool) (s : State) : (s.setBranch b).params = s.params := rfl

@[simp] theorem State.setOops_a (b : Bool) (s : State) : (s.setOops b).a = s.a := rfl
@[simp] theorem State.setOops_x (b : Bool) (s : State) : (s.setOops b).x = s.x := rfl
@[simp] theorem State.setOops_y (b : Bool) (s : State) : (s.setOops b).y = s.y := rfl
@[simp] theorem State.setOops_sp (b : Bool) (s : State) : (s.setOops b).sp = s.sp := rfl
@[simp] theorem State.setOops_pc (b : Bool) (s : State) : (s.setOops b).pc = s.pc := rfl
@[simp] theorem State.setOops_p (b : Bool) (s : State) : (s.setOops b).p = s.p := rfl
@[simp] theorem State.setOops_pendingBranchCycle (b : Bool) (s : State) : (s.setOops b).pendingBranchCycle = s.pendingBranchCycle := rfl
@[simp] theorem State.setOops_pendingOopsCycle (b : Bool) (s : State) : (s.setOops b).pendingOopsCycle = b := rfl
@[simp] theorem State.setOops_pendingNMI (b : Bool) (s : State) : (s.setOops b).pendingNMI = s.pendingNMI := rfl
@[simp] theorem State.setOops_pendingIRQ (b : Bool) (s : State) : (s.setOops b).pendingIRQ = s.pendingIRQ := rfl
@[simp] theorem State.setOops_dmaCycles (b : Bool) (s : State) : (s.setOops b).dmaCycles = s.dmaCycles := rfl
@[simp] theorem State.setOops_cycleCount (b : Bool) (s : State) : (s.setOops b).cycleCount = s.cycleCount := rfl
@[simp] theorem State.setOops_mem (b : Bool) (s : State) : (s.setOops b).mem = s.mem := rfl
@[simp] theorem State.setOops_bus (b : Bool) (s : State) : (s.setOops b).bus = s.bus := rfl
@[simp] theorem State.setOops_stepCycles (b : Bool) (s : State) : (s.setOops b).stepCycles = s.stepCycles := rfl
@[simp] theorem State.setOops_busLog (b : Bool) (s : State) : (s.setOops b).busLog = s.busLog := rfl
@[simp] theorem State.setOops_params (b : Bool) (s : State) : (s.setOops b).params = s.params := rfl

@[simp] theorem State.setNMI_a (b : Bool) (s : State) : (s.setNMI b).a = s.a := rfl
@[simp] theorem State.setNMI_x (b : Bool) (s : State) : (s.setNMI b).x = s.x := rfl
@[simp] theorem State.setNMI_y (b : Bool) (s : State) : (s.setNMI b).y = s.y := rfl
@[simp] theorem State.setNMI_sp (b : Bool) (s : State) : (s.setNMI b).sp = s.sp := rfl
@[simp] theorem State.setNMI_pc (b : Bool) (s : State) : (s.setNMI b).pc = s.pc := rfl
@[simp] theorem State.setNMI_p (b : Bool) (s : State) : (s.setNMI b).p = s.p := rfl
@[simp] theorem State.setNMI_pendingBranchCycle (b : Bool) (s : State) : (s.setNMI b).pendingBranchCycle = s.pendingBranchCycle := rfl
@[simp] theorem State.setNMI_pendingOopsCycle (b : Bool) (s : State) : (s.setNMI b).pendingOopsCycle = s.pendingOopsCycle := rfl
@[simp] theorem State.setNMI_pendingNMI (b : Bool) (s : State) : (s.setNMI b).pendingNMI = b := rfl
@[simp] theorem State.setNMI_pendingIRQ (b : Bool) (s : State) : (s.setNMI b).pendingIRQ = s.pendingIRQ := rfl
@[simp] theorem State.setNMI_dmaCycles (b : Bool) (s : State) : (s.setNMI b).dmaCycles = s.dmaCycles := rfl
@[simp] theorem State.setNMI_cycleCount (b : Bool) (s : State) : (s.setNMI b).cycleCount = s.cycleCount := rfl
@[simp] theorem State.setNMI_mem (b : Bool) (s : State) : (s.setNMI b).mem = s.mem := rfl
@[simp] theorem State.setNMI_bus (b : Bool) (s : State) : (s.setNMI b).bus = s.bus := rfl
@[simp] theorem State.setNMI_stepCycles (b : Bool) (s : State) : (s.setNMI b).stepCycles = s.stepCycles := rfl
@[simp] theorem State.setNMI_busLog (b : Bool) (s : State) : (s.setNMI b).busLog = s.busLog := rfl
@[simp] theorem State.setNMI_params (b : Bool) (s : State) : (s.setNMI b).params = s.params := rfl

@[simp] theorem State.setIRQ_a (b : Bool) (s : State) : (s.setIRQ b).a = s.a := rfl
@[simp] theorem State.setIRQ_x (b : Bool) (s : State) : (s.setIRQ b).x = s.x := rfl
@[simp] theorem State.setIRQ_y (b : Bool) (s : State) : (s.setIRQ b).y = s.y := rfl
@[simp] theorem State.setIRQ_sp (b : Bool) (s : State) : (s.setIRQ b).sp = s.sp := rfl
@[simp] theorem State.setIRQ_pc (b : Bool) (s : State) : (s.setIRQ b).pc = s.pc := rfl
@[simp] theorem State.setIRQ_p (b : Bool) (s : State) : (s.setIRQ b).p = s.p := rfl
@[simp] theorem State.setIRQ_pendingBranchCycle (b : Bool) (s : State) : (s.setIRQ b).pendingBranchCycle = s.pendingBranchCycle := rfl
@[simp] theorem State.setIRQ_pendingOopsCycle (b : Bool) (s : State) : (s.setIRQ b).pendingOopsCycle = s.pendingOopsCycle := rfl
@[simp] theorem State.setIRQ_pendingNMI (b : Bool) (s : State) : (s.setIRQ b).pendingNMI = s.pendingNMI := rfl
@[simp] theorem State.setIRQ_pendingIRQ (b : Bool) (s : State) : (s.setIRQ b).pendingIRQ = b := rfl
@[simp] theorem State.setIRQ_dmaCycles (b : Bool) (s : State) : (s.setIRQ b).dmaCycles = s.dmaCycles := rfl
@[simp] theorem State.setIRQ_cycleCount (b : Bool) (s : State) : (s.setIRQ b).cycleCount = s.cycleCount := rfl
@[simp] theorem State.setIRQ_mem (b : Bool) (s : State) : (s.setIRQ b).mem = s.mem := rfl
@[simp] theorem State.setIRQ_bus (b : Bool) (s : State) : (s.setIRQ b).bus = s.bus := rfl
@[simp] theorem State.setIRQ_stepCycles (b : Bool) (s : State) : (s.setIRQ b).stepCycles = s.stepCycles := rfl
@[simp] theorem State.setIRQ_busLog (b : Bool) (s : State) : (s.setIRQ b).busLog = s.busLog := rfl
@[simp] theorem State.setIRQ_params (b : Bool) (s : State) : (s.setIRQ b).params = s.params := rfl

@[simp] theorem State.setDma_a (n : Nat) (s : State) : (s.setDma n).a = s.a := rfl
@[simp] theorem State.setDma_x (n : Nat) (s : State) : (s.setDma n).x = s.x := rfl
@[simp] theorem State.setDma_y (n : Nat) (s : State) : (s.setDma n).y = s.y := rfl
@[simp] theorem State.setDma_sp (n : Nat) (s : State) : (s.setDma n).sp = s.sp := rfl
@[simp] theorem State.setDma_pc (n : Nat) (s : State) : (s.setDma n).pc = s.pc := rfl
@[simp] theorem State.setDma_p (n : Nat) (s : State) : (s.setDma n).p = s.p := rfl
@[simp] theorem State.setDma_pendingBranchCycle (n : Nat) (s : State) : (s.setDma n).pendingBranchCycle = s.pendingBranchCycle := rfl
@[simp] theorem State.setDma_pendingOopsCycle (n : Nat) (s : State) : (s.setDma n).pendingOopsCycle = s.pendingOopsCycle := rfl
@[simp] theorem State.setDma_pendingNMI (n : Nat) (s : State) : (s.setDma n).pendingNMI = s.pendingNMI := rfl
@[simp] theorem State.setDma_pendingIRQ (n : Nat) (s : State) : (s.setDma n).pendingIRQ = s.pendingIRQ := rfl
@[simp] theorem State.setDma_dmaCycles (n : Nat) (s : State) : (s.setDma n).dmaCycles = n := rfl
@[simp] theorem State.setDma_cycleCount (n : Nat) (s : State) : (s.setDma n).cycleCount = s.cycleCount := rfl
@[simp] theorem State.setDma_mem (n : Nat) (s : State) : (s.setDma n).mem = s.mem := rfl
@[simp] theorem State.setDma_bus (n : Nat) (s : State) : (s.setDma n).bus = s.bus := rfl
@[simp] theorem State.setDma_stepCycles (n : Nat) (s : State) : (s.setDma n).stepCycles = s.stepCycles := rfl
@[simp] theorem State.setDma_busLog (n : Nat) (s : State) : (s.setDma n).busLog = s.busLog := rfl
@[simp] theorem State.setDma_params (n : Nat) (s : State) : (s.setDma n).params = s.params := rfl

@[simp] theorem State.setCycleCount_a (n : Nat) (s : State) : (s.setCycleCount n).a = s.a := rfl
@[simp] theorem State.setCycleCount_x (n : Nat) (s : State) : (s.setCycleCount n).x = s.x := rfl
@[simp] theorem State.setCycleCount_y (n : Nat) (s : State) : (s.setCycleCount n).y = s.y := rfl
@[simp] theorem State.setCycleCount_sp (n : Nat) (s : State) : (s.setCycleCount n).sp = s.sp := rfl
@[simp] theorem State.setCycleCount_pc (n : Nat) (s : State) : (s.setCycleCount n).pc = s.pc := rfl
@[simp] theorem State.setCycleCount_p (n : Nat) (s : State) : (s.setCycleCount n).p = s.p := rfl
@[simp] theorem State.setCycleCount_pendingBranchCycle (n : Nat) (s : State) : (s.setCycleCount n).pendingBranchCycle = s.pendingBranchCycle := rfl
@[simp] theorem State.setCycleCount_pendingOopsCycle (n : Nat) (s : State) : (s.setCycleCount n).pendingOopsCycle = s.pendingOopsCycle := rfl
@[simp] theorem State.setCycleCount_pendingNMI (n : Nat) (s : State) : (s.setCycleCount n).pendingNMI = s.pendingNMI := rfl
@[simp] theorem State.setCycleCount_pendingIRQ (n : Nat) (s : State) : (s.setCycleCount n).pendingIRQ = s.pendingIRQ := rfl
@[simp] theorem State.setCycleCount_dmaCycles (n : Nat) (s : State) : (s.setCycleCount n).dmaCycles = s.dmaCycles := rfl
@[simp] theorem State.setCycleCount_cycleCount (n : Nat) (s : State) : (s.setCycleCount n).cycleCount = n := rfl
@[simp] theorem State.setCycleCount_mem (n : Nat) (s : State) : (s.setCycleCount n).mem = s.mem := rfl
@[simp] theorem State.setCycleCount_bus (n : Nat) (s : State) : (s.setCycleCount n).bus = s.bus := rfl
@[simp] theorem State.setCycleCount_stepCycles (n : Nat) (s : State) : (s.setCycleCount n).stepCycles = s.stepCycles := rfl
@[simp] theorem State.setCycleCount_busLog (n : Nat) (s : State) : (s.setCycleCount n).busLog = s.busLog := rfl
@[simp] theorem State.setCycleCount_params (n : Nat) (s : State) : (s.setCycleCount n).params = s.params := rfl

@[simp] theorem State.setMem_a (m : Memory) (s : State) : (s.setMem m).a = s.a := rfl
@[simp] theorem State.setMem_x (m : Memory) (s : State) : (s.setMem m).x = s.x := rfl
@[simp] theorem State.setMem_y (m : Memory) (s : State) : (s.setMem m).y = s.y := rfl
@[simp] theorem State.setMem_sp (m : Memory) (s : State) : (s.setMem m).sp = s.sp := rfl
@[simp] theorem State.setMem_pc (m : Memory) (s : State) : (s.setMem m).pc = s.pc := rfl
@[simp] theorem State.setMem_p (m : Memory) (s : State) : (s.setMem m).p = s.p := rfl
@[simp] theorem State.setMem_pendingBranchCycle (m : Memory) (s : State) : (s.setMem m).pendingBranchCycle = s.pendingBranchCycle := rfl
@[simp] theorem State.setMem_pendingOopsCycle (m : Memory) (s : State) : (s.setMem m).pendingOopsCycle = s.pendingOopsCycle := rfl
@[simp] theorem State.setMem_pendingNMI (m : Memory) (s : State) : (s.setMem m).pendingNMI = s.pendingNMI := rfl
@[simp] theorem State.setMem_pendingIRQ (m : Memory) (s : State) : (s.setMem m).pendingIRQ = s.pendingIRQ := rfl
@[simp] theorem State.setMem_dmaCycles (m : Memory) (s : State) : (s.setMem m).dmaCycles = s.dmaCycles := rfl
@[simp] theorem State.setMem_cycleCount (m : Memory) (s : State) : (s.setMem m).cycleCount = s.cycleCount := rfl
@[simp] theorem State.setMem_mem (m : Memory) (s : State) : (s.setMem m).mem = m := rfl
@[simp] theorem State.setMem_bus (m : Memory) (s : State) : (s.setMem m).bus = s.bus := rfl
@[simp] theorem State.setMem_stepCycles (m : Memory) (s : State) : (s.setMem m).stepCycles = s.stepCycles := rfl
@[simp] theorem State.setMem_busLog (m : Memory) (s : State) : (s.setMem m).busLog = s.busLog := rfl
@[simp] theorem State.setMem_params (m : Memory) (s : State) : (s.setMem m).params = s.params := rfl

@[simp] theorem State.setBus_a (b : Bus) (s : State) : (s.setBus b).a = s.a := rfl
@[simp] theorem State.setBus_x (b : Bus) (s : State) : (s.setBus b).x = s.x := rfl
@[simp] theorem State.setBus_y (b : Bus) (s : State) : (s.setBus b).y = s.y := rfl
@[simp] theorem State.setBus_sp (b : Bus) (s : State) : (s.setBus b).sp = s.sp := rfl
@[simp] theorem State.setBus_pc (b : Bus) (s : State) : (s.setBus b).pc = s.pc := rfl
@[simp] theorem State.setBus_p (b : Bus) (s : State) : (s.setBus b).p = s.p := rfl
@[simp] theorem State.setBus_pendingBranchCycle (b : Bus) (s : State) : (s.setBus b).pendingBranchCycle = s.pendingBranchCycle := rfl
@[simp] theorem State.setBus_pendingOopsCycle (b : Bus) (s : State) : (s.setBus b).pendingOopsCycle = s.pendingOopsCycle := rfl
@[simp] theorem State.setBus_pendingNMI (b : Bus) (s : State) : (s.setBus b).pendingNMI = s.pendingNMI := rfl
@[simp] theorem State.setBus_pendingIRQ (b : Bus) (s : State) : (s.setBus b).pendingIRQ = s.pendingIRQ := rfl
@[simp] theorem State.setBus_dmaCycles (b : Bus) (s : State) : (s.setBus b).dmaCycles = s.dmaCycles := rfl
@[simp] theorem State.setBus_cycleCount (b : Bus) (s : State) : (s.setBus b).cycleCount = s.cycleCount := rfl
@[simp] theorem State.setBus_mem (b : Bus) (s : State) : (s.setBus b).mem = s.mem := rfl
@[simp] theorem State.setBus_bus (b : Bus) (s : State) : (s.setBus b).bus = b := rfl
@[simp] theorem State.setBus_stepCycles (b : Bus) (s : State) : (s.setBus b).stepCycles = s.stepCycles := rfl
@[simp] theorem State.setBus_busLog (b : Bus) (s : State) : (s.setBus b).busLog = s.busLog := rfl
@[simp] theorem State.setBus_params (b : Bus) (s : State) : (s.setBus b).params = s.params := rfl

@[simp] theorem State.setStepCycles_a (n : Nat) (s : State) : (s.setStepCycles n).a = s.a := rfl
@[simp] theorem State.setStepCycles_x (n : Nat) (s : State) : (s.setStepCycles n).x = s.x := rfl
@[simp] theorem State.setStepCycles_y (n : Nat) (s : State) : (s.setStepCycles n).y = s.y := rfl
@[simp] theorem State.setStepCycles_sp (n : Nat) (s : State) : (s.setStepCycles n).sp = s.sp := rfl
@[simp] theorem State.setStepCycles_pc (n : Nat) (s : State) : (s.setStepCycles n).pc = s.pc := rfl
@[simp] theorem State.setStepCycles_p (n : Nat) (s : State) : (s.setStepCycles n).p = s.p := rfl
@[simp] theorem State.setStepCycles_pendingBranchCycle (n : Nat) (s : State) : (s.setStepCycles n).pendingBranchCycle = s.pendingBranchCycle := rfl
@[simp] theorem State.setStepCycles_pendingOopsCycle (n : Nat) (s : State) : (s.setStepCycles n).pendingOopsCycle = s.pendingOopsCycle := rfl
@[simp] theorem State.setStepCycles_pendingNMI (n : Nat) (s : State) : (s.setStepCycles n).pendingNMI = s.pendingNMI := rfl
@[simp] theorem State.setStepCycles_pendingIRQ (n : Nat) (s : State) : (s.setStepCycles n).pendingIRQ = s.pendingIRQ := rfl
@[simp] theorem State.setStepCycles_dmaCycles (n : Nat) (s : State) : (s.setStepCycles n).dmaCycles = s.dmaCycles := rfl
@[simp] theorem State.setStepCycles_cycleCount (n : Nat) (s : State) : (s.setStepCycles n).cycleCount = s.cycleCount := rfl
@[simp] theorem State.setStepCycles_mem (n : Nat) (s : State) : (s.setStepCycles n).mem = s.mem := rfl
@[simp] theorem State.setStepCycles_bus (n : Nat) (s : State) : (s.setStepCycles n).bus = s.bus := rfl
@[simp] theorem State.setStepCycles_stepCycles (n : Nat) (s : State) : (s.setStepCycles n).stepCycles = n := rfl
@[simp] theorem State.setStepCycles_busLog (n : Nat) (s : State) : (s.setStepCycles n).busLog = s.busLog := rfl
@[simp] theorem State.setStepCycles_params (n : Nat) (s : State) : (s.setStepCycles n).params = s.params := rfl

@[simp] theorem State.setBusLog_a (l : List BusEvent) (s : State) : (s.setBusLog l).a = s.a := rfl
@[simp] theorem State.setBusLog_x (l : List BusEvent) (s : State) : (s.setBusLog l).x = s.x := rfl
@[simp] theorem State.setBusLog_y (l : List BusEvent) (s : State) : (s.setBusLog l).y = s.y := rfl
@[simp] theorem State.setBusLog_sp (l : List BusEvent) (s : State) : (s.setBusLog l).sp = s.sp := rfl
@[simp] theorem State.setBusLog_pc (l : List BusEvent) (s : State) : (s.setBusLog l).pc = s.pc := rfl
@[simp] theorem State.setBusLog_p (l : List BusEvent) (s : State) : (s.setBusLog l).p = s.p := rfl
@[simp] theorem State.setBusLog_pendingBranchCycle (l : List BusEvent) (s : State) : (s.setBusLog l).pendingBranchCycle = s.pendingBranchCycle := rfl
@[simp] theorem State.setBusLog_pendingOopsCycle (l : List BusEvent) (s : State) : (s.setBusLog l).pendingOopsCycle = s.pendingOopsCycle := rfl
@[simp] theorem State.setBusLog_pendingNMI (l : List BusEvent) (s : State) : (s.setBusLog l).pendingNMI = s.pendingNMI := rfl
@[simp] theorem State.setBusLog_pendingIRQ (l : List BusEvent) (s : State) : (s.setBusLog l).pendingIRQ = s.pendingIRQ := rfl
@[simp] theorem State.setBusLog_dmaCycles (l : List BusEvent) (s : State) : (s.setBusLog l).dmaCycles = s.dmaCycles := rfl
@[simp] theorem State.setBusLog_cycleCount (l : List BusEvent) (s : State) : (s.setBusLog l).cycleCount = s.cycleCount := rfl
@[simp] theorem State.setBusLog_mem (l : List BusEvent) (s : State) : (s.setBusLog l).mem = s.mem := rfl
@[simp] theorem State.setBusLog_bus (l : List BusEvent) (s : State) : (s.setBusLog l).bus = s.bus := rfl
@[simp] theorem State.setBusLog_stepCycles (l : List BusEvent) (s : State) : (s.setBusLog l).stepCycles = s.stepCycles := rfl
@[simp] theorem State.setBusLog_busLog (l : List BusEvent) (s : State) : (s.setBusLog l).busLog = l := rfl
@[simp] theorem State.setBusLog_params (l : List BusEvent) (s : State) : (s.setBusLog l).params = s.params := rfl

@[simp] theorem State.logEvent_a (e : BusEvent) (s : State) : (s.logEvent e).a = s.a := rfl
@[simp] theorem State.logEvent_x (e : BusEvent) (s : State) : (s.logEvent e).x = s.x := rfl
@[simp] theorem State.logEvent_y (e : BusEvent) (s : State) : (s.logEvent e).y = s.y := rfl
@[simp] theorem State.logEvent_sp (e : BusEvent) (s : State) : (s.logEvent e).sp = s.sp := rfl
@[simp] theorem State.logEvent_pc (e : BusEvent) (s : State) : (s.logEvent e).pc = s.pc := rfl
@[simp] theorem State.logEvent_p (e : BusEvent) (s : State) : (s.logEvent e).p = s.p := rfl
@[simp] theorem State.logEvent_pendingBranchCycle (e : BusEvent) (s : State) : (s.logEvent e).pendingBranchCycle = s.pendingBranchCycle := rfl
@[simp] theorem State.logEvent_pendingOopsCycle (e : BusEvent) (s : State) : (s.logEvent e).pendingOopsCycle = s.pendingOopsCycle := rfl
@[simp] theorem State.logEvent_pendingNMI (e : BusEvent) (s : State) : (s.logEvent e).pendingNMI = s.pendingNMI := rfl
@[simp] theorem State.logEvent_pendingIRQ (e : BusEvent) (s : State) : (s.logEvent e).pendingIRQ = s.pendingIRQ := rfl
@[simp] theorem State.logEvent_dmaCycles (e : BusEvent) (s : State) : (s.logEvent e).dmaCycles = s.dmaCycles := rfl
@[simp] theorem State.logEvent_cycleCount (e : BusEvent) (s : State) : (s.logEvent e).cycleCount = s.cycleCount := rfl
@[simp] theorem State.logEvent_mem (e : BusEvent) (s : State) : (s.logEvent e).mem = s.mem := rfl
@[simp] theorem State.logEvent_bus (e : BusEvent) (s : State) : (s.logEvent e).bus = s.bus := rfl
@[simp] theorem State.logEvent_stepCycles (e : BusEvent) (s : State) : (s.logEvent e).stepCycles = s.stepCycles := rfl
@[simp] theorem State.logEvent_busLog (e : BusEvent) (s : State) : (s.logEvent e).busLog = s.busLog ++ [e] := rfl
@[simp] theorem State.logEvent_params (e : BusEvent) (s : State) : (s.logEvent e).params = s.params := rfl

end Sys2Proof.Machine
end

