-- ==== Sys2Proof/Laws/Ops.lean ====
section
/-! SUPPORT. One equation per shared operation over the bus, the stack and the vectors: the value it answers and the whole state
it leaves. -/

namespace Sys2Proof.Machine

open Sys2Proof.Rules

/-! ### The bus -/

theorem peek_eq (k : Nat) (a : Word) (s : State) : s.peek k a = answer k a s := by
  unfold State.peek answerAt answer
  rw [List.getD_eq_getElem?_getD]
  rcases s.bus.answers[k]? with _ | _ | v <;> rfl

/-- What the bus answers depends on the bus and on the byte of the RAM alone. -/
theorem answer_eq (k : Nat) (a : Word) (s : State) : answer k a s = answerAt s.bus k (s.mem.read a) := (peek_eq k a s).symm

theorem kept_eq (k : Nat) (a : Word) (v : Byte) (s : State) :
    kept k a v s = if ignoredAt s.bus k then s.mem.read a else v := by
  unfold kept ignoredAt
  rw [List.getD_eq_getElem?_getD]
  rcases s.bus.ignored[k]? with _ | _ | _ <;> rfl

theorem spend_eq (r w : Nat) (b : Bus) : spend r w b = spent r w b := rfl

@[simp] theorem answerAt_spent (r w k : Nat) (b : Bus) (v : Byte) : answerAt (spent r w b) k v = answerAt b (r + k) v := by
  simp [answerAt, spent, List.getD_eq_getElem?_getD]

@[simp] theorem ignoredAt_spent (r w k : Nat) (b : Bus) : ignoredAt (spent r w b) k = ignoredAt b (w + k) := by
  simp [ignoredAt, spent, List.getD_eq_getElem?_getD]

@[simp] theorem spent_spent (r w q x : Nat) (b : Bus) : spent r w (spent q x b) = spent (q + r) (x + w) b := by
  simp [spent]

@[simp] theorem spent_zero (b : Bus) : spent 0 0 b = b := rfl

@[simp] theorem answerAt_ram (k : Nat) (v : Byte) : answerAt Bus.ram k v = v := rfl

/-- Without answers of its own the bus answers from the RAM (R75). -/
theorem answer_ram {s : State} (h : s.bus.answers = []) (k : Nat) (a : Word) : answer k a s = s.mem.read a := by
  simp [answer, h]

/-- Without ignored writes every write reaches the RAM (R75). -/
theorem kept_ram {s : State} (h : s.bus.ignored = []) (k : Nat) (a : Word) (v : Byte) : kept k a v s = v := by
  simp [kept, h]

/-! ### Reads and writes -/

theorem completeRead_eq (a : Word) (v : Byte) (s : State) :
    completeRead a v s = { s with bus := spent 1 0 s.bus, busLog := s.busLog ++ [.read a v] } := rfl

@[simp] theorem memRead_value (a : Word) (s : State) : (memRead a s).1 = answer 0 a s := peek_eq 0 a s

theorem memRead_state (a : Word) (s : State) :
    (memRead a s).2 = { s with bus := spent 1 0 s.bus, busLog := s.busLog ++ [readEvent 0 a s] } := by
  rw [memRead, peek_eq, completeRead_eq]
  rfl

theorem memWrite_eq (a : Word) (v : Byte) (s : State) :
    memWrite a v s =
      { s with mem := storeByte (ignoredAt s.bus 0) s.mem a v, bus := spent 0 1 s.bus
               busLog := s.busLog ++ [.write a v] } := rfl

theorem readPair_value (lo hi : Word) (s : State) : (readPair lo hi s).1 = wordOfBytes (answer 1 hi s) (answer 0 lo s) := by
  simp [readPair, memRead_state, answer_eq]

theorem readPair_state (lo hi : Word) (s : State) :
    (readPair lo hi s).2 =
      { s with bus := spent 2 0 s.bus, busLog := s.busLog ++ [readEvent 0 lo s, readEvent 1 hi s] } := by
  simp [readPair, memRead_state, readEvent, answer_eq]

theorem read16_value (a : Word) (s : State) : (read16 a s).1 = wordOfBytes (answer 1 (a + 1#16) s) (answer 0 a s) :=
  readPair_value ..

theorem read16_state (a : Word) (s : State) :
    (read16 a s).2 =
      { s with bus := spent 2 0 s.bus, busLog := s.busLog ++ [readEvent 0 a s, readEvent 1 (a + 1#16) s] } :=
  readPair_state ..

theorem push_eq (v : Byte) (s : State) :
    push v s =
      { s with
        sp := s.sp - 1#8
        mem := storeByte (ignoredAt s.bus 0) s.mem (stackAddr s.sp) v
        bus := spent 0 1 s.bus
        busLog := s.busLog ++ [.write (stackAddr s.sp) v] } := rfl

@[simp] theorem pull_value (s : State) : (pull s).1 = answer 0 (stackAddr (s.sp + 1#8)) s := memRead_value ..

theorem pull_state (s : State) :
    (pull s).2 =
      { s with
        sp := s.sp + 1#8
        bus := spent 1 0 s.bus
        busLog := s.busLog ++ [readEvent 0 (stackAddr (s.sp + 1#8)) s] } := by
  rw [pull, memRead_state]
  rfl

theorem pushWord_eq (w : Word) (s : State) :
    pushWord w s =
      { s with
        sp := s.sp - 1#8 - 1#8
        mem := storeByte (ignoredAt s.bus 1) (storeByte (ignoredAt s.bus 0) s.mem (stackAddr s.sp) (highByte w))
          (stackAddr (s.sp - 1#8)) (lowByte w)
        bus := spent 0 2 s.bus
        busLog := s.busLog ++ [.write (stackAddr s.sp) (highByte w), .write (stackAddr (s.sp - 1#8)) (lowByte w)] } := by
  simp [pushWord, push_eq]

theorem pullWord_value (s : State) :
    (pullWord s).1 = wordOfBytes (answer 1 (stackAddr (s.sp + 1#8 + 1#8)) s) (answer 0 (stackAddr (s.sp + 1#8)) s) := by
  simp [pullWord, pull_state, answer_eq]

theorem pullWord_state (s : State) :
    (pullWord s).2 =
      { s with
        sp := s.sp + 1#8 + 1#8
        bus := spent 2 0 s.bus
        busLog := s.busLog ++
          [readEvent 0 (stackAddr (s.sp + 1#8)) s, readEvent 1 (stackAddr (s.sp + 1#8 + 1#8)) s] } := by
  simp [pullWord, pull_state, readEvent, answer_eq]

/-- The memory after the three pushes of an interrupt entry (R327). -/
def interruptFrame (brk : Bool) (s : State) : Memory :=
  storeByte (ignoredAt s.bus 2)
    (storeByte (ignoredAt s.bus 1) (storeByte (ignoredAt s.bus 0) s.mem (stackAddr s.sp) (highByte s.pc))
      (stackAddr (s.sp - 1#8)) (lowByte s.pc))
    (stackAddr (s.sp - 1#8 - 1#8)) (packP brk s.p)

theorem takeInterrupt_eq (v : Word) (brk : Bool) (s : State) :
    takeInterrupt v brk s =
      { s with
        sp := s.sp - 1#8 - 1#8 - 1#8
        p := { s.p with i := true }
        pc := wordOfBytes (answerAt s.bus 1 ((interruptFrame brk s).read (v + 1#16)))
          (answerAt s.bus 0 ((interruptFrame brk s).read v))
        mem := interruptFrame brk s
        bus := spent 2 3 s.bus
        busLog := s.busLog ++
          [.write (stackAddr s.sp) (highByte s.pc), .write (stackAddr (s.sp - 1#8)) (lowByte s.pc),
            .write (stackAddr (s.sp - 1#8 - 1#8)) (packP brk s.p),
            .read v (answerAt s.bus 0 ((interruptFrame brk s).read v)),
            .read (v + 1#16) (answerAt s.bus 1 ((interruptFrame brk s).read (v + 1#16)))] } := by
  simp [takeInterrupt, read16_value, read16_state, pushWord_eq, push_eq, State.setP, State.setPC, interruptFrame, readEvent,
    answer_eq]

theorem returnFromInterrupt_eq (s : State) :
    returnFromInterrupt s =
      { s with
        sp := s.sp + 1#8 + 1#8 + 1#8
        p := unpackP (answer 0 (stackAddr (s.sp + 1#8)) s)
        pc := wordOfBytes (answer 2 (stackAddr (s.sp + 1#8 + 1#8 + 1#8)) s) (answer 1 (stackAddr (s.sp + 1#8 + 1#8)) s)
        bus := spent 3 0 s.bus
        busLog := s.busLog ++
          [readEvent 0 (stackAddr (s.sp + 1#8)) s, readEvent 1 (stackAddr (s.sp + 1#8 + 1#8)) s,
            readEvent 2 (stackAddr (s.sp + 1#8 + 1#8 + 1#8)) s] } := by
  simp [returnFromInterrupt, pullWord_value, pullWord_state, pull_state, State.setP, State.setPC, readEvent, answer_eq]

theorem resetOp_eq (s : State) :
    resetOp s =
      { State.reset with
        mem := s.mem
        bus := spent 2 0 s.bus
        params := s.params
        pc := wordOfBytes (answer 1 (resetVector + 1#16) s) (answer 0 resetVector s)
        busLog := [readEvent 0 resetVector s, readEvent 1 (resetVector + 1#16) s] } := by
  simp [resetOp, powerOnPosture, read16_value, read16_state, State.setPC, readEvent, answer_eq]

/-- The state after reset is `Reset()` on a bus whose memory lists nothing. -/
theorem resetOp_reset : resetOp State.reset = State.reset := rfl

/-! ### Two bytes as a word, and the stack addresses, in the terms of the rules -/

theorem wordOfBytes_eq (hi lo : Byte) : wordOfBytes hi lo = BitVec.ofNat 16 (256 * hi.toNat + lo.toNat) := by
  rw [wordOfBytes, Nat.mul_comm]

theorem zext16_eq (v : Byte) : zext16 v = BitVec.ofNat 16 v.toNat := by
  apply BitVec.eq_of_toNat_eq
  simp [zext16]

theorem toNat_add_one (z : Byte) : (z + 1#8).toNat = (z.toNat + 1) % 256 := by simp [BitVec.toNat_add]

theorem stackAddr_sub (k : Nat) (hk : k ≤ 256) (s : State) : stackAddr (s.sp - BitVec.ofNat 8 k) = stackBelow k s := by
  unfold stackAddr stackBelow
  rw [zext16_eq, BitVec.toNat_sub, BitVec.toNat_ofNat]
  congr 2
  have h := s.sp.isLt
  omega

theorem stackAddr_add (k : Nat) (s : State) : stackAddr (s.sp + BitVec.ofNat 8 k) = stackAbove k s := by
  unfold stackAddr stackAbove
  rw [zext16_eq, BitVec.toNat_add, BitVec.toNat_ofNat]
  congr 2
  omega

/-- A push addresses page one (R24). -/
theorem highByte_stackAddr (sp : Byte) : highByte (stackAddr sp) = 0x01#8 := by
  apply BitVec.eq_of_toNat_eq
  have h := sp.isLt
  rw [toNat_highByte, stackAddr, zext16_eq, BitVec.toNat_add, BitVec.toNat_ofNat]
  simp
  omega

theorem stackAddr_inj {a b : Byte} : stackAddr a = stackAddr b ↔ a = b := by
  constructor
  · intro h
    have h' := congrArg BitVec.toNat h
    have ha := a.isLt
    have hb := b.isLt
    simp only [stackAddr, zext16_eq, BitVec.toNat_add, BitVec.toNat_ofNat] at h'
    apply BitVec.eq_of_toNat_eq
    omega
  · rintro rfl
    rfl

/-! ### The frame of an interrupt sequence in the terms of the rules -/

theorem highByte_eq (w : Word) : highByte w = highOf w := by
  apply BitVec.eq_of_toNat_eq
  have h := w.isLt
  rw [toNat_highByte, highOf, BitVec.toNat_ofNat]
  omega

theorem lowByte_eq (w : Word) : lowByte w = lowOf w := by
  apply BitVec.eq_of_toNat_eq
  rw [toNat_lowByte, lowOf, BitVec.toNat_ofNat]

/-- An address outside page one is no stack byte. -/
theorem ne_stackAddr {b : Word} (h : page b ≠ 1) (sp : Byte) : b ≠ stackAddr sp := by
  rintro rfl
  have h' := congrArg BitVec.toNat (highByte_stackAddr sp)
  rw [toNat_highByte] at h'
  exact h h'

theorem stackBelow_eq_stackAddr (k : Nat) (hk : k ≤ 256) (s : State) : stackBelow k s = stackAddr (s.sp - BitVec.ofNat 8 k) :=
  (stackAddr_sub k hk s).symm

theorem sub_sub_eq (a : Byte) : a - 1#8 - 1#8 = a - 2#8 := by bv_omega

theorem sub_sub_sub_eq (a : Byte) : a - 1#8 - 1#8 - 1#8 = a - 3#8 := by bv_omega

theorem interruptFrame_stack (brk : Bool) (s : State) :
    interruptFrame brk s =
      storeByte (ignoredAt s.bus 2)
        (storeByte (ignoredAt s.bus 1) (storeByte (ignoredAt s.bus 0) s.mem (stackBelow 0 s) (highOf s.pc)) (stackBelow 1 s)
          (lowOf s.pc))
        (stackBelow 2 s) (packP brk s.p) := by
  rw [interruptFrame, highByte_eq, lowByte_eq, ← stackAddr_sub 0 (by omega), ← stackAddr_sub 1 (by omega),
    ← stackAddr_sub 2 (by omega), sub_sub_eq]
  simp

theorem stackBelow_ne {j k : Nat} (hj : j < 256) (hk : k < 256) (h : j ≠ k) (s : State) : stackBelow j s ≠ stackBelow k s := by
  rw [stackBelow_eq_stackAddr j (by omega), stackBelow_eq_stackAddr k (by omega), Ne, stackAddr_inj]
  intro he
  have h' := congrArg BitVec.toNat he
  have hs := s.sp.isLt
  simp only [BitVec.toNat_sub, BitVec.toNat_ofNat] at h'
  omega

/-- An address outside page one reads after the three pushes as before. -/
theorem interruptFrame_read {b : Word} (h : page b ≠ 1) (brk : Bool) (s : State) :
    (interruptFrame brk s).read b = s.mem.read b := by
  rw [interruptFrame, storeByte_other _ _ _ (ne_stackAddr h _), storeByte_other _ _ _ (ne_stackAddr h _),
    storeByte_other _ _ _ (ne_stackAddr h _)]

/-- Entering an interrupt sequence through the two vectors in use, in the terms of the rules. -/
theorem takeInterrupt_entered (v : Word) (hv : v = nmiVector ∨ v = irqVector) (brk : Bool) (s : State) :
    takeInterrupt v brk s = entered v brk (interruptFrame brk s) s := by
  have h1 : page v ≠ 1 := by rcases hv with rfl | rfl <;> decide
  have h2 : page (v + 1#16) ≠ 1 := by rcases hv with rfl | rfl <;> decide
  have hp : packP brk s.p = BitVec.ofNat 8 (statusNumber brk true s.p) := by rw [← packP_toNat]; simp
  rw [takeInterrupt_eq, interruptFrame_read h1, interruptFrame_read h2, highByte_eq, lowByte_eq, hp, entered, frameEvents,
    wordOfBytes_eq, wordAt, sub_sub_sub_eq, ← stackAddr_sub 0 (by omega), ← stackAddr_sub 1 (by omega),
    ← stackAddr_sub 2 (by omega), sub_sub_eq]
  simp [readEvent, answer_eq]

end Sys2Proof.Machine
end

