-- ==== Sys2Proof/Laws/Bus.lean ====
section
/-! SUPPORT. The bus events of an operation as an exchange with the bus (R7, R61, R62): `Exchanges s t` holds of every operation over
memory, and of a sequence of such operations. -/

namespace Sys2Proof.Machine

open Sys2Proof.Rules

/-- The exchange of a log and then of another. -/
theorem exchange_append (b : Bus) (m : Memory) (l k : List BusEvent) :
    exchange b m (l ++ k) = (exchange b m l).bind fun p => exchange p.1 p.2 k := by
  induction l generalizing b m with
  | nil => rfl
  | cons e l ih =>
    cases e with
    | read a v =>
      simp only [List.cons_append, exchange, ih]
      split <;> split <;> rfl
    | write a v => exact ih ..

/-- The events that `t` has logged since `s` lead from the bus and the memory of `s` to those of `t`. -/
def Exchanges (s t : State) : Prop := ∃ l, t.busLog = s.busLog ++ l ∧ exchange s.bus s.mem l = some (t.bus, t.mem)

/-- An update of other fields makes no event. -/
theorem exchanges_of_eq {s t : State} (hl : t.busLog = s.busLog) (hb : t.bus = s.bus) (hm : t.mem = s.mem) : Exchanges s t :=
  ⟨[], by simp [hl], by simp [exchange, hb, hm]⟩

theorem exchanges_trans {s t u : State} (h : Exchanges s t) (k : Exchanges t u) : Exchanges s u := by
  obtain ⟨l, hl, he⟩ := h
  obtain ⟨r, hr, hf⟩ := k
  exact ⟨l ++ r, by rw [hr, hl, List.append_assoc], by rw [exchange_append, he]; exact hf⟩

/-- A read of the byte that the bus answers: the operand's bytes, which the decoder has taken, are read so (R91). -/
theorem exchanges_completeRead {a : Word} {v : Byte} {s : State} (h : v = answer 0 a s) : Exchanges s (completeRead a v s) := by
  refine ⟨[.read a v], rfl, ?_⟩
  unfold answer at h
  unfold exchange
  rcases ha : s.bus.answers with _ | ⟨_ | u, l⟩ <;> simp_all [exchange, completeRead_eq]

theorem exchanges_memRead (a : Word) (s : State) : Exchanges s (memRead a s).2 := exchanges_completeRead (peek_eq 0 a s)

theorem exchanges_memWrite (a : Word) (v : Byte) (s : State) : Exchanges s (memWrite a v s) := by
  refine ⟨[.write a v], rfl, ?_⟩
  unfold exchange memWrite storeByte ignoredAt
  rcases s.bus.ignored with _ | ⟨_ | _, l⟩ <;> rfl

theorem exchanges_readPair (lo hi : Word) (s : State) : Exchanges s (readPair lo hi s).2 :=
  exchanges_trans (exchanges_memRead lo s) (exchanges_memRead hi _)

theorem exchanges_push (v : Byte) (s : State) : Exchanges s (push v s) :=
  exchanges_trans (exchanges_memWrite ..) (exchanges_of_eq rfl rfl rfl)

theorem exchanges_pull (s : State) : Exchanges s (pull s).2 :=
  exchanges_trans (t := s.setS (s.sp + 1#8)) (exchanges_of_eq rfl rfl rfl) (exchanges_memRead ..)

theorem exchanges_pushWord (w : Word) (s : State) : Exchanges s (pushWord w s) :=
  exchanges_trans (exchanges_push _ s) (exchanges_push ..)

theorem exchanges_takeInterrupt (v : Word) (brk : Bool) (s : State) : Exchanges s (takeInterrupt v brk s) :=
  let s1 := push (packP brk s.p) (pushWord s.pc s)
  exchanges_trans (t := s1) (exchanges_trans (exchanges_pushWord s.pc s) (exchanges_push ..))
    (exchanges_trans (t := s1.setP { s1.p with i := true }) (exchanges_of_eq rfl rfl rfl)
      (exchanges_trans (exchanges_readPair v (v + 1#16) _) (exchanges_of_eq rfl rfl rfl)))

theorem exchanges_returnFromInterrupt (s : State) : Exchanges s (returnFromInterrupt s) :=
  exchanges_trans (exchanges_trans (exchanges_pull s) (exchanges_of_eq (t := (pull s).2.setP _) rfl rfl rfl))
    (exchanges_trans (exchanges_pull _) (exchanges_trans (exchanges_pull _) (exchanges_of_eq rfl rfl rfl)))

end Sys2Proof.Machine
end

