-- ==== Sys2Proof/Laws/Decode.lean ====
section
/-! SUPPORT. What the decoder answers on a byte string of each length, and that it keeps the opcode byte. -/

namespace Sys2Proof

theorem decode_one {b0 : Byte} {row : Row} (h : tableRow b0 = row) (hs : row.size = 1) (rest : List Byte) :
    decode (b0 :: rest) = .ok (decodeBytes b0 0#8 0#8) rest := by
  unfold decode
  simp only [instructionSize, h, hs]

theorem decode_two {b0 : Byte} {row : Row} (h : tableRow b0 = row) (hs : row.size = 2) (b1 : Byte) (rest : List Byte) :
    decode (b0 :: b1 :: rest) = .ok (decodeBytes b0 b1 0#8) rest := by
  unfold decode
  simp only [instructionSize, h, hs]

theorem decode_three {b0 : Byte} {row : Row} (h : tableRow b0 = row) (hs : row.size = 3) (b1 b2 : Byte) (rest : List Byte) :
    decode (b0 :: b1 :: b2 :: rest) = .ok (decodeBytes b0 b1 b2) rest := by
  unfold decode
  simp only [instructionSize, h, hs]

/-- Every row has one, two or three bytes (R91). -/
theorem size_cases : ∀ b : Byte, (tableRow b).size = 1 ∨ (tableRow b).size = 2 ∨ (tableRow b).size = 3 := by decide

theorem opcode_decodeBytes_zero : ∀ b : Byte, (decodeBytes b 0#8 0#8).opcode = b := by decide

theorem opcode_decodeBytes_eq (b0 b1 b2 : Byte) : (decodeBytes b0 b1 b2).opcode = (decodeBytes b0 0#8 0#8).opcode := by
  unfold decodeBytes
  split
  · unfold decodeRow0
    split <;> simp only [Instr.opcode]
  · unfold decodeRow1
    split <;> simp only [Instr.opcode]
  · unfold decodeRow2
    split <;> simp only [Instr.opcode]
  · unfold decodeRow3
    split <;> simp only [Instr.opcode]
  · unfold decodeRow4
    split <;> simp only [Instr.opcode]
  · unfold decodeRow5
    split <;> simp only [Instr.opcode]
  · unfold decodeRow6
    split <;> simp only [Instr.opcode]
  · unfold decodeRow7
    split <;> simp only [Instr.opcode]
  · unfold decodeRow8
    split <;> simp only [Instr.opcode]
  · unfold decodeRow9
    split <;> simp only [Instr.opcode]
  · unfold decodeRowA
    split <;> simp only [Instr.opcode]
  · unfold decodeRowB
    split <;> simp only [Instr.opcode]
  · unfold decodeRowC
    split <;> simp only [Instr.opcode]
  · unfold decodeRowD
    split <;> simp only [Instr.opcode]
  · unfold decodeRowE
    split <;> simp only [Instr.opcode]
  · unfold decodeRowF
    split <;> simp only [Instr.opcode]

/-- The decoder keeps the opcode byte (R93). -/
theorem opcode_decodeBytes (b0 b1 b2 : Byte) : (decodeBytes b0 b1 b2).opcode = b0 :=
  (opcode_decodeBytes_eq b0 b1 b2).trans (opcode_decodeBytes_zero b0)

end Sys2Proof
end

