-- ==== Sys2Proof/Laws/Frames.lean ====
section
/-! SUPPORT. The frame of each shared operation, field by field: one lemma for each field the operation leaves alone. -/

namespace Sys2Proof.Machine

@[simp] theorem completeRead_a (addr : Word) (v : Byte) (s : State) : (completeRead addr v s).a = s.a := rfl
@[simp] theorem completeRead_x (addr : Word) (v : Byte) (s : State) : (completeRead addr v s).x = s.x := rfl
@[simp] theorem completeRead_y (addr : Word) (v : Byte) (s : State) : (completeRead addr v s).y = s.y := rfl
@[simp] theorem completeRead_sp (addr : Word) (v : Byte) (s : State) : (completeRead addr v s).sp = s.sp := rfl
@[simp] theorem completeRead_pc (addr : Word) (v : Byte) (s : State) : (completeRead addr v s).pc = s.pc := rfl
@[simp] theorem completeRead_p (addr : Word) (v : Byte) (s : State) : (completeRead addr v s).p = s.p := rfl
@[simp] theorem completeRead_pendingBranchCycle (addr : Word) (v : Byte) (s : State) : (completeRead addr v s).pendingBranchCycle = s.pendingBranchCycle := rfl
@[simp] theorem completeRead_pendingOopsCycle (addr : Word) (v : Byte) (s : State) : (completeRead addr v s).pendingOopsCycle = s.pendingOopsCycle := rfl
@[simp] theorem completeRead_pendingNMI (addr : Word) (v : Byte) (s : State) : (completeRead addr v s).pendingNMI = s.pendingNMI := rfl
@[simp] theorem completeRead_pendingIRQ (addr : Word) (v : Byte) (s : State) : (completeRead addr v s).pendingIRQ = s.pendingIRQ := rfl
@[simp] theorem completeRead_dmaCycles (addr : Word) (v : Byte) (s : State) : (completeRead addr v s).dmaCycles = s.dmaCycles := rfl
@[simp] theorem completeRead_cycleCount (addr : Word) (v : Byte) (s : State) : (completeRead addr v s).cycleCount = s.cycleCount := rfl
@[simp] theorem completeRead_mem (addr : Word) (v : Byte) (s : State) : (completeRead addr v s).mem = s.mem := rfl
@[simp] theorem completeRead_stepCycles (addr : Word) (v : Byte) (s : State) : (completeRead addr v s).stepCycles = s.stepCycles := rfl
@[simp] theorem completeRead_params (addr : Word) (v : Byte) (s : State) : (completeRead addr v s).params = s.params := rfl

@[simp] theorem memRead_a (addr : Word) (s : State) : (memRead addr s).2.a = s.a := rfl
@[simp] theorem memRead_x (addr : Word) (s : State) : (memRead addr s).2.x = s.x := rfl
@[simp] theorem memRead_y (addr : Word) (s : State) : (memRead addr s).2.y = s.y := rfl
@[simp] theorem memRead_sp (addr : Word) (s : State) : (memRead addr s).2.sp = s.sp := rfl
@[simp] theorem memRead_pc (addr : Word) (s : State) : (memRead addr s).2.pc = s.pc := rfl
@[simp] theorem memRead_p (addr : Word) (s : State) : (memRead addr s).2.p = s.p := rfl
@[simp] theorem memRead_pendingBranchCycle (addr : Word) (s : State) : (memRead addr s).2.pendingBranchCycle = s.pendingBranchCycle := rfl
@[simp] theorem memRead_pendingOopsCycle (addr : Word) (s : State) : (memRead addr s).2.pendingOopsCycle = s.pendingOopsCycle := rfl
@[simp] theorem memRead_pendingNMI (addr : Word) (s : State) : (memRead addr s).2.pendingNMI = s.pendingNMI := rfl
@[simp] theorem memRead_pendingIRQ (addr : Word) (s : State) : (memRead addr s).2.pendingIRQ = s.pendingIRQ := rfl
@[simp] theorem memRead_dmaCycles (addr : Word) (s : State) : (memRead addr s).2.dmaCycles = s.dmaCycles := rfl
@[simp] theorem memRead_cycleCount (addr : Word) (s : State) : (memRead addr s).2.cycleCount = s.cycleCount := rfl
@[simp] theorem memRead_mem (addr : Word) (s : State) : (memRead addr s).2.mem = s.mem := rfl
@[simp] theorem memRead_stepCycles (addr : Word) (s : State) : (memRead addr s).2.stepCycles = s.stepCycles := rfl
@[simp] theorem memRead_params (addr : Word) (s : State) : (memRead addr s).2.params = s.params := rfl

@[simp] theorem memWrite_a (addr : Word) (v : Byte) (s : State) : (memWrite addr v s).a = s.a := rfl
@[simp] theorem memWrite_x (addr : Word) (v : Byte) (s : State) : (memWrite addr v s).x = s.x := rfl
@[simp] theorem memWrite_y (addr : Word) (v : Byte) (s : State) : (memWrite addr v s).y = s.y := rfl
@[simp] theorem memWrite_sp (addr : Word) (v : Byte) (s : State) : (memWrite addr v s).sp = s.sp := rfl
@[simp] theorem memWrite_pc (addr : Word) (v : Byte) (s : State) : (memWrite addr v s).pc = s.pc := rfl
@[simp] theorem memWrite_p (addr : Word) (v : Byte) (s : State) : (memWrite addr v s).p = s.p := rfl
@[simp] theorem memWrite_pendingBranchCycle (addr : Word) (v : Byte) (s : State) : (memWrite addr v s).pendingBranchCycle = s.pendingBranchCycle := rfl
@[simp] theorem memWrite_pendingOopsCycle (addr : Word) (v : Byte) (s : State) : (memWrite addr v s).pendingOopsCycle = s.pendingOopsCycle := rfl
@[simp] theorem memWrite_pendingNMI (addr : Word) (v : Byte) (s : State) : (memWrite addr v s).pendingNMI = s.pendingNMI := rfl
@[simp] theorem memWrite_pendingIRQ (addr : Word) (v : Byte) (s : State) : (memWrite addr v s).pendingIRQ = s.pendingIRQ := rfl
@[simp] theorem memWrite_dmaCycles (addr : Word) (v : Byte) (s : State) : (memWrite addr v s).dmaCycles = s.dmaCycles := rfl
@[simp] theorem memWrite_cycleCount (addr : Word) (v : Byte) (s : State) : (memWrite addr v s).cycleCount = s.cycleCount := rfl
@[simp] theorem memWrite_stepCycles (addr : Word) (v : Byte) (s : State) : (memWrite addr v s).stepCycles = s.stepCycles := rfl
@[simp] theorem memWrite_params (addr : Word) (v : Byte) (s : State) : (memWrite addr v s).params = s.params := rfl

@[simp] theorem readPair_a (lo hi : Word) (s : State) : (readPair lo hi s).2.a = s.a := by
  simp [readPair]
@[simp] theorem readPair_x (lo hi : Word) (s : State) : (readPair lo hi s).2.x = s.x := by
  simp [readPair]
@[simp] theorem readPair_y (lo hi : Word) (s : State) : (readPair lo hi s).2.y = s.y := by
  simp [readPair]
@[simp] theorem readPair_sp (lo hi : Word) (s : State) : (readPair lo hi s).2.sp = s.sp := by
  simp [readPair]
@[simp] theorem readPair_pc (lo hi : Word) (s : State) : (readPair lo hi s).2.pc = s.pc := by
  simp [readPair]
@[simp] theorem readPair_p (lo hi : Word) (s : State) : (readPair lo hi s).2.p = s.p := by
  simp [readPair]
@[simp] theorem readPair_pendingBranchCycle (lo hi : Word) (s : State) : (readPair lo hi s).2.pendingBranchCycle = s.pendingBranchCycle := by
  simp [readPair]
@[simp] theorem readPair_pendingOopsCycle (lo hi : Word) (s : State) : (readPair lo hi s).2.pendingOopsCycle = s.pendingOopsCycle := by
  simp [readPair]
@[simp] theorem readPair_pendingNMI (lo hi : Word) (s : State) : (readPair lo hi s).2.pendingNMI = s.pendingNMI := by
  simp [readPair]
@[simp] theorem readPair_pendingIRQ (lo hi : Word) (s : State) : (readPair lo hi s).2.pendingIRQ = s.pendingIRQ := by
  simp [readPair]
@[simp] theorem readPair_dmaCycles (lo hi : Word) (s : State) : (readPair lo hi s).2.dmaCycles = s.dmaCycles := by
  simp [readPair]
@[simp] theorem readPair_cycleCount (lo hi : Word) (s : State) : (readPair lo hi s).2.cycleCount = s.cycleCount := by
  simp [readPair]
@[simp] theorem readPair_mem (lo hi : Word) (s : State) : (readPair lo hi s).2.mem = s.mem := by
  simp [readPair]
@[simp] theorem readPair_stepCycles (lo hi : Word) (s : State) : (readPair lo hi s).2.stepCycles = s.stepCycles := by
  simp [readPair]
@[simp] theorem readPair_params (lo hi : Word) (s : State) : (readPair lo hi s).2.params = s.params := by
  simp [readPair]

@[simp] theorem read16_a (addr : Word) (s : State) : (read16 addr s).2.a = s.a := by
  simp [read16]
@[simp] theorem read16_x (addr : Word) (s : State) : (read16 addr s).2.x = s.x := by
  simp [read16]
@[simp] theorem read16_y (addr : Word) (s : State) : (read16 addr s).2.y = s.y := by
  simp [read16]
@[simp] theorem read16_sp (addr : Word) (s : State) : (read16 addr s).2.sp = s.sp := by
  simp [read16]
@[simp] theorem read16_pc (addr : Word) (s : State) : (read16 addr s).2.pc = s.pc := by
  simp [read16]
@[simp] theorem read16_p (addr : Word) (s : State) : (read16 addr s).2.p = s.p := by
  simp [read16]
@[simp] theorem read16_pendingBranchCycle (addr : Word) (s : State) : (read16 addr s).2.pendingBranchCycle = s.pendingBranchCycle := by
  simp [read16]
@[simp] theorem read16_pendingOopsCycle (addr : Word) (s : State) : (read16 addr s).2.pendingOopsCycle = s.pendingOopsCycle := by
  simp [read16]
@[simp] theorem read16_pendingNMI (addr : Word) (s : State) : (read16 addr s).2.pendingNMI = s.pendingNMI := by
  simp [read16]
@[simp] theorem read16_pendingIRQ (addr : Word) (s : State) : (read16 addr s).2.pendingIRQ = s.pendingIRQ := by
  simp [read16]
@[simp] theorem read16_dmaCycles (addr : Word) (s : State) : (read16 addr s).2.dmaCycles = s.dmaCycles := by
  simp [read16]
@[simp] theorem read16_cycleCount (addr : Word) (s : State) : (read16 addr s).2.cycleCount = s.cycleCount := by
  simp [read16]
@[simp] theorem read16_mem (addr : Word) (s : State) : (read16 addr s).2.mem = s.mem := by
  simp [read16]
@[simp] theorem read16_stepCycles (addr : Word) (s : State) : (read16 addr s).2.stepCycles = s.stepCycles := by
  simp [read16]
@[simp] theorem read16_params (addr : Word) (s : State) : (read16 addr s).2.params = s.params := by
  simp [read16]

@[simp] theorem read16ZP_a (z : Byte) (s : State) : (read16ZP z s).2.a = s.a := by
  simp [read16ZP]
@[simp] theorem read16ZP_x (z : Byte) (s : State) : (read16ZP z s).2.x = s.x := by
  simp [read16ZP]
@[simp] theorem read16ZP_y (z : Byte) (s : State) : (read16ZP z s).2.y = s.y := by
  simp [read16ZP]
@[simp] theorem read16ZP_sp (z : Byte) (s : State) : (read16ZP z s).2.sp = s.sp := by
  simp [read16ZP]
@[simp] theorem read16ZP_pc (z : Byte) (s : State) : (read16ZP z s).2.pc = s.pc := by
  simp [read16ZP]
@[simp] theorem read16ZP_p (z : Byte) (s : State) : (read16ZP z s).2.p = s.p := by
  simp [read16ZP]
@[simp] theorem read16ZP_pendingBranchCycle (z : Byte) (s : State) : (read16ZP z s).2.pendingBranchCycle = s.pendingBranchCycle := by
  simp [read16ZP]
@[simp] theorem read16ZP_pendingOopsCycle (z : Byte) (s : State) : (read16ZP z s).2.pendingOopsCycle = s.pendingOopsCycle := by
  simp [read16ZP]
@[simp] theorem read16ZP_pendingNMI (z : Byte) (s : State) : (read16ZP z s).2.pendingNMI = s.pendingNMI := by
  simp [read16ZP]
@[simp] theorem read16ZP_pendingIRQ (z : Byte) (s : State) : (read16ZP z s).2.pendingIRQ = s.pendingIRQ := by
  simp [read16ZP]
@[simp] theorem read16ZP_dmaCycles (z : Byte) (s : State) : (read16ZP z s).2.dmaCycles = s.dmaCycles := by
  simp [read16ZP]
@[simp] theorem read16ZP_cycleCount (z : Byte) (s : State) : (read16ZP z s).2.cycleCount = s.cycleCount := by
  simp [read16ZP]
@[simp] theorem read16ZP_mem (z : Byte) (s : State) : (read16ZP z s).2.mem = s.mem := by
  simp [read16ZP]
@[simp] theorem read16ZP_stepCycles (z : Byte) (s : State) : (read16ZP z s).2.stepCycles = s.stepCycles := by
  simp [read16ZP]
@[simp] theorem read16ZP_params (z : Byte) (s : State) : (read16ZP z s).2.params = s.params := by
  simp [read16ZP]

@[simp] theorem read16Bug_a (ptr : Word) (s : State) : (read16Bug ptr s).2.a = s.a := by
  simp [read16Bug]
@[simp] theorem read16Bug_x (ptr : Word) (s : State) : (read16Bug ptr s).2.x = s.x := by
  simp [read16Bug]
@[simp] theorem read16Bug_y (ptr : Word) (s : State) : (read16Bug ptr s).2.y = s.y := by
  simp [read16Bug]
@[simp] theorem read16Bug_sp (ptr : Word) (s : State) : (read16Bug ptr s).2.sp = s.sp := by
  simp [read16Bug]
@[simp] theorem read16Bug_pc (ptr : Word) (s : State) : (read16Bug ptr s).2.pc = s.pc := by
  simp [read16Bug]
@[simp] theorem read16Bug_p (ptr : Word) (s : State) : (read16Bug ptr s).2.p = s.p := by
  simp [read16Bug]
@[simp] theorem read16Bug_pendingBranchCycle (ptr : Word) (s : State) : (read16Bug ptr s).2.pendingBranchCycle = s.pendingBranchCycle := by
  simp [read16Bug]
@[simp] theorem read16Bug_pendingOopsCycle (ptr : Word) (s : State) : (read16Bug ptr s).2.pendingOopsCycle = s.pendingOopsCycle := by
  simp [read16Bug]
@[simp] theorem read16Bug_pendingNMI (ptr : Word) (s : State) : (read16Bug ptr s).2.pendingNMI = s.pendingNMI := by
  simp [read16Bug]
@[simp] theorem read16Bug_pendingIRQ (ptr : Word) (s : State) : (read16Bug ptr s).2.pendingIRQ = s.pendingIRQ := by
  simp [read16Bug]
@[simp] theorem read16Bug_dmaCycles (ptr : Word) (s : State) : (read16Bug ptr s).2.dmaCycles = s.dmaCycles := by
  simp [read16Bug]
@[simp] theorem read16Bug_cycleCount (ptr : Word) (s : State) : (read16Bug ptr s).2.cycleCount = s.cycleCount := by
  simp [read16Bug]
@[simp] theorem read16Bug_mem (ptr : Word) (s : State) : (read16Bug ptr s).2.mem = s.mem := by
  simp [read16Bug]
@[simp] theorem read16Bug_stepCycles (ptr : Word) (s : State) : (read16Bug ptr s).2.stepCycles = s.stepCycles := by
  simp [read16Bug]
@[simp] theorem read16Bug_params (ptr : Word) (s : State) : (read16Bug ptr s).2.params = s.params := by
  simp [read16Bug]

@[simp] theorem push_a (v : Byte) (s : State) : (push v s).a = s.a := rfl
@[simp] theorem push_x (v : Byte) (s : State) : (push v s).x = s.x := rfl
@[simp] theorem push_y (v : Byte) (s : State) : (push v s).y = s.y := rfl
@[simp] theorem push_pc (v : Byte) (s : State) : (push v s).pc = s.pc := rfl
@[simp] theorem push_p (v : Byte) (s : State) : (push v s).p = s.p := rfl
@[simp] theorem push_pendingBranchCycle (v : Byte) (s : State) : (push v s).pendingBranchCycle = s.pendingBranchCycle := rfl
@[simp] theorem push_pendingOopsCycle (v : Byte) (s : State) : (push v s).pendingOopsCycle = s.pendingOopsCycle := rfl
@[simp] theorem push_pendingNMI (v : Byte) (s : State) : (push v s).pendingNMI = s.pendingNMI := rfl
@[simp] theorem push_pendingIRQ (v : Byte) (s : State) : (push v s).pendingIRQ = s.pendingIRQ := rfl
@[simp] theorem push_dmaCycles (v : Byte) (s : State) : (push v s).dmaCycles = s.dmaCycles := rfl
@[simp] theorem push_cycleCount (v : Byte) (s : State) : (push v s).cycleCount = s.cycleCount := rfl
@[simp] theorem push_stepCycles (v : Byte) (s : State) : (push v s).stepCycles = s.stepCycles := rfl
@[simp] theorem push_params (v : Byte) (s : State) : (push v s).params = s.params := rfl

@[simp] theorem pull_a (s : State) : (pull s).2.a = s.a := rfl
@[simp] theorem pull_x (s : State) : (pull s).2.x = s.x := rfl
@[simp] theorem pull_y (s : State) : (pull s).2.y = s.y := rfl
@[simp] theorem pull_pc (s : State) : (pull s).2.pc = s.pc := rfl
@[simp] theorem pull_p (s : State) : (pull s).2.p = s.p := rfl
@[simp] theorem pull_pendingBranchCycle (s : State) : (pull s).2.pendingBranchCycle = s.pendingBranchCycle := rfl
@[simp] theorem pull_pendingOopsCycle (s : State) : (pull s).2.pendingOopsCycle = s.pendingOopsCycle := rfl
@[simp] theorem pull_pendingNMI (s : State) : (pull s).2.pendingNMI = s.pendingNMI := rfl
@[simp] theorem pull_pendingIRQ (s : State) : (pull s).2.pendingIRQ = s.pendingIRQ := rfl
@[simp] theorem pull_dmaCycles (s : State) : (pull s).2.dmaCycles = s.dmaCycles := rfl
@[simp] theorem pull_cycleCount (s : State) : (pull s).2.cycleCount = s.cycleCount := rfl
@[simp] theorem pull_mem (s : State) : (pull s).2.mem = s.mem := rfl
@[simp] theorem pull_stepCycles (s : State) : (pull s).2.stepCycles = s.stepCycles := rfl
@[simp] theorem pull_params (s : State) : (pull s).2.params = s.params := rfl

@[simp] theorem pushWord_a (w : Word) (s : State) : (pushWord w s).a = s.a := by
  simp [pushWord]
@[simp] theorem pushWord_x (w : Word) (s : State) : (pushWord w s).x = s.x := by
  simp [pushWord]
@[simp] theorem pushWord_y (w : Word) (s : State) : (pushWord w s).y = s.y := by
  simp [pushWord]
@[simp] theorem pushWord_pc (w : Word) (s : State) : (pushWord w s).pc = s.pc := by
  simp [pushWord]
@[simp] theorem pushWord_p (w : Word) (s : State) : (pushWord w s).p = s.p := by
  simp [pushWord]
@[simp] theorem pushWord_pendingBranchCycle (w : Word) (s : State) : (pushWord w s).pendingBranchCycle = s.pendingBranchCycle := by
  simp [pushWord]
@[simp] theorem pushWord_pendingOopsCycle (w : Word) (s : State) : (pushWord w s).pendingOopsCycle = s.pendingOopsCycle := by
  simp [pushWord]
@[simp] theorem pushWord_pendingNMI (w : Word) (s : State) : (pushWord w s).pendingNMI = s.pendingNMI := by
  simp [pushWord]
@[simp] theorem pushWord_pendingIRQ (w : Word) (s : State) : (pushWord w s).pendingIRQ = s.pendingIRQ := by
  simp [pushWord]
@[simp] theorem pushWord_dmaCycles (w : Word) (s : State) : (pushWord w s).dmaCycles = s.dmaCycles := by
  simp [pushWord]
@[simp] theorem pushWord_cycleCount (w : Word) (s : State) : (pushWord w s).cycleCount = s.cycleCount := by
  simp [pushWord]
@[simp] theorem pushWord_stepCycles (w : Word) (s : State) : (pushWord w s).stepCycles = s.stepCycles := by
  simp [pushWord]
@[simp] theorem pushWord_params (w : Word) (s : State) : (pushWord w s).params = s.params := by
  simp [pushWord]

@[simp] theorem pullWord_a (s : State) : (pullWord s).2.a = s.a := by
  simp [pullWord]
@[simp] theorem pullWord_x (s : State) : (pullWord s).2.x = s.x := by
  simp [pullWord]
@[simp] theorem pullWord_y (s : State) : (pullWord s).2.y = s.y := by
  simp [pullWord]
@[simp] theorem pullWord_pc (s : State) : (pullWord s).2.pc = s.pc := by
  simp [pullWord]
@[simp] theorem pullWord_p (s : State) : (pullWord s).2.p = s.p := by
  simp [pullWord]
@[simp] theorem pullWord_pendingBranchCycle (s : State) : (pullWord s).2.pendingBranchCycle = s.pendingBranchCycle := by
  simp [pullWord]
@[simp] theorem pullWord_pendingOopsCycle (s : State) : (pullWord s).2.pendingOopsCycle = s.pendingOopsCycle := by
  simp [pullWord]
@[simp] theorem pullWord_pendingNMI (s : State) : (pullWord s).2.pendingNMI = s.pendingNMI := by
  simp [pullWord]
@[simp] theorem pullWord_pendingIRQ (s : State) : (pullWord s).2.pendingIRQ = s.pendingIRQ := by
  simp [pullWord]
@[simp] theorem pullWord_dmaCycles (s : State) : (pullWord s).2.dmaCycles = s.dmaCycles := by
  simp [pullWord]
@[simp] theorem pullWord_cycleCount (s : State) : (pullWord s).2.cycleCount = s.cycleCount := by
  simp [pullWord]
@[simp] theorem pullWord_mem (s : State) : (pullWord s).2.mem = s.mem := by
  simp [pullWord]
@[simp] theorem pullWord_stepCycles (s : State) : (pullWord s).2.stepCycles = s.stepCycles := by
  simp [pullWord]
@[simp] theorem pullWord_params (s : State) : (pullWord s).2.params = s.params := by
  simp [pullWord]

@[simp] theorem takeInterrupt_a (v : Word) (brk : Bool) (s : State) : (takeInterrupt v brk s).a = s.a := by
  simp [takeInterrupt]
@[simp] theorem takeInterrupt_x (v : Word) (brk : Bool) (s : State) : (takeInterrupt v brk s).x = s.x := by
  simp [takeInterrupt]
@[simp] theorem takeInterrupt_y (v : Word) (brk : Bool) (s : State) : (takeInterrupt v brk s).y = s.y := by
  simp [takeInterrupt]
@[simp] theorem takeInterrupt_pendingBranchCycle (v : Word) (brk : Bool) (s : State) : (takeInterrupt v brk s).pendingBranchCycle = s.pendingBranchCycle := by
  simp [takeInterrupt]
@[simp] theorem takeInterrupt_pendingOopsCycle (v : Word) (brk : Bool) (s : State) : (takeInterrupt v brk s).pendingOopsCycle = s.pendingOopsCycle := by
  simp [takeInterrupt]
@[simp] theorem takeInterrupt_pendingNMI (v : Word) (brk : Bool) (s : State) : (takeInterrupt v brk s).pendingNMI = s.pendingNMI := by
  simp [takeInterrupt]
@[simp] theorem takeInterrupt_pendingIRQ (v : Word) (brk : Bool) (s : State) : (takeInterrupt v brk s).pendingIRQ = s.pendingIRQ := by
  simp [takeInterrupt]
@[simp] theorem takeInterrupt_dmaCycles (v : Word) (brk : Bool) (s : State) : (takeInterrupt v brk s).dmaCycles = s.dmaCycles := by
  simp [takeInterrupt]
@[simp] theorem takeInterrupt_cycleCount (v : Word) (brk : Bool) (s : State) : (takeInterrupt v brk s).cycleCount = s.cycleCount := by
  simp [takeInterrupt]
@[simp] theorem takeInterrupt_stepCycles (v : Word) (brk : Bool) (s : State) : (takeInterrupt v brk s).stepCycles = s.stepCycles := by
  simp [takeInterrupt]
@[simp] theorem takeInterrupt_params (v : Word) (brk : Bool) (s : State) : (takeInterrupt v brk s).params = s.params := by
  simp [takeInterrupt]

@[simp] theorem returnFromInterrupt_a (s : State) : (returnFromInterrupt s).a = s.a := by
  simp [returnFromInterrupt]
@[simp] theorem returnFromInterrupt_x (s : State) : (returnFromInterrupt s).x = s.x := by
  simp [returnFromInterrupt]
@[simp] theorem returnFromInterrupt_y (s : State) : (returnFromInterrupt s).y = s.y := by
  simp [returnFromInterrupt]
@[simp] theorem returnFromInterrupt_pendingBranchCycle (s : State) : (returnFromInterrupt s).pendingBranchCycle = s.pendingBranchCycle := by
  simp [returnFromInterrupt]
@[simp] theorem returnFromInterrupt_pendingOopsCycle (s : State) : (returnFromInterrupt s).pendingOopsCycle = s.pendingOopsCycle := by
  simp [returnFromInterrupt]
@[simp] theorem returnFromInterrupt_pendingNMI (s : State) : (returnFromInterrupt s).pendingNMI = s.pendingNMI := by
  simp [returnFromInterrupt]
@[simp] theorem returnFromInterrupt_pendingIRQ (s : State) : (returnFromInterrupt s).pendingIRQ = s.pendingIRQ := by
  simp [returnFromInterrupt]
@[simp] theorem returnFromInterrupt_dmaCycles (s : State) : (returnFromInterrupt s).dmaCycles = s.dmaCycles := by
  simp [returnFromInterrupt]
@[simp] theorem returnFromInterrupt_cycleCount (s : State) : (returnFromInterrupt s).cycleCount = s.cycleCount := by
  simp [returnFromInterrupt]
@[simp] theorem returnFromInterrupt_mem (s : State) : (returnFromInterrupt s).mem = s.mem := by
  simp [returnFromInterrupt]
@[simp] theorem returnFromInterrupt_stepCycles (s : State) : (returnFromInterrupt s).stepCycles = s.stepCycles := by
  simp [returnFromInterrupt]
@[simp] theorem returnFromInterrupt_params (s : State) : (returnFromInterrupt s).params = s.params := by
  simp [returnFromInterrupt]

@[simp] theorem advance_a (n : Word) (s : State) : (advance n s).a = s.a := rfl
@[simp] theorem advance_x (n : Word) (s : State) : (advance n s).x = s.x := rfl
@[simp] theorem advance_y (n : Word) (s : State) : (advance n s).y = s.y := rfl
@[simp] theorem advance_sp (n : Word) (s : State) : (advance n s).sp = s.sp := rfl
@[simp] theorem advance_p (n : Word) (s : State) : (advance n s).p = s.p := rfl
@[simp] theorem advance_pendingBranchCycle (n : Word) (s : State) : (advance n s).pendingBranchCycle = s.pendingBranchCycle := rfl
@[simp] theorem advance_pendingOopsCycle (n : Word) (s : State) : (advance n s).pendingOopsCycle = s.pendingOopsCycle := rfl
@[simp] theorem advance_pendingNMI (n : Word) (s : State) : (advance n s).pendingNMI = s.pendingNMI := rfl
@[simp] theorem advance_pendingIRQ (n : Word) (s : State) : (advance n s).pendingIRQ = s.pendingIRQ := rfl
@[simp] theorem advance_dmaCycles (n : Word) (s : State) : (advance n s).dmaCycles = s.dmaCycles := rfl
@[simp] theorem advance_cycleCount (n : Word) (s : State) : (advance n s).cycleCount = s.cycleCount := rfl
@[simp] theorem advance_mem (n : Word) (s : State) : (advance n s).mem = s.mem := rfl
@[simp] theorem advance_bus (n : Word) (s : State) : (advance n s).bus = s.bus := rfl
@[simp] theorem advance_stepCycles (n : Word) (s : State) : (advance n s).stepCycles = s.stepCycles := rfl
@[simp] theorem advance_busLog (n : Word) (s : State) : (advance n s).busLog = s.busLog := rfl
@[simp] theorem advance_params (n : Word) (s : State) : (advance n s).params = s.params := rfl

@[simp] theorem readOperandByte_a (v : Byte) (s : State) : (readOperandByte v s).a = s.a := rfl
@[simp] theorem readOperandByte_x (v : Byte) (s : State) : (readOperandByte v s).x = s.x := rfl
@[simp] theorem readOperandByte_y (v : Byte) (s : State) : (readOperandByte v s).y = s.y := rfl
@[simp] theorem readOperandByte_sp (v : Byte) (s : State) : (readOperandByte v s).sp = s.sp := rfl
@[simp] theorem readOperandByte_pc (v : Byte) (s : State) : (readOperandByte v s).pc = s.pc := rfl
@[simp] theorem readOperandByte_p (v : Byte) (s : State) : (readOperandByte v s).p = s.p := rfl
@[simp] theorem readOperandByte_pendingBranchCycle (v : Byte) (s : State) : (readOperandByte v s).pendingBranchCycle = s.pendingBranchCycle := rfl
@[simp] theorem readOperandByte_pendingOopsCycle (v : Byte) (s : State) : (readOperandByte v s).pendingOopsCycle = s.pendingOopsCycle := rfl
@[simp] theorem readOperandByte_pendingNMI (v : Byte) (s : State) : (readOperandByte v s).pendingNMI = s.pendingNMI := rfl
@[simp] theorem readOperandByte_pendingIRQ (v : Byte) (s : State) : (readOperandByte v s).pendingIRQ = s.pendingIRQ := rfl
@[simp] theorem readOperandByte_dmaCycles (v : Byte) (s : State) : (readOperandByte v s).dmaCycles = s.dmaCycles := rfl
@[simp] theorem readOperandByte_cycleCount (v : Byte) (s : State) : (readOperandByte v s).cycleCount = s.cycleCount := rfl
@[simp] theorem readOperandByte_mem (v : Byte) (s : State) : (readOperandByte v s).mem = s.mem := rfl
@[simp] theorem readOperandByte_stepCycles (v : Byte) (s : State) : (readOperandByte v s).stepCycles = s.stepCycles := rfl
@[simp] theorem readOperandByte_params (v : Byte) (s : State) : (readOperandByte v s).params = s.params := rfl

@[simp] theorem readOperandWord_a (w : Word) (s : State) : (readOperandWord w s).a = s.a := rfl
@[simp] theorem readOperandWord_x (w : Word) (s : State) : (readOperandWord w s).x = s.x := rfl
@[simp] theorem readOperandWord_y (w : Word) (s : State) : (readOperandWord w s).y = s.y := rfl
@[simp] theorem readOperandWord_sp (w : Word) (s : State) : (readOperandWord w s).sp = s.sp := rfl
@[simp] theorem readOperandWord_pc (w : Word) (s : State) : (readOperandWord w s).pc = s.pc := rfl
@[simp] theorem readOperandWord_p (w : Word) (s : State) : (readOperandWord w s).p = s.p := rfl
@[simp] theorem readOperandWord_pendingBranchCycle (w : Word) (s : State) : (readOperandWord w s).pendingBranchCycle = s.pendingBranchCycle := rfl
@[simp] theorem readOperandWord_pendingOopsCycle (w : Word) (s : State) : (readOperandWord w s).pendingOopsCycle = s.pendingOopsCycle := rfl
@[simp] theorem readOperandWord_pendingNMI (w : Word) (s : State) : (readOperandWord w s).pendingNMI = s.pendingNMI := rfl
@[simp] theorem readOperandWord_pendingIRQ (w : Word) (s : State) : (readOperandWord w s).pendingIRQ = s.pendingIRQ := rfl
@[simp] theorem readOperandWord_dmaCycles (w : Word) (s : State) : (readOperandWord w s).dmaCycles = s.dmaCycles := rfl
@[simp] theorem readOperandWord_cycleCount (w : Word) (s : State) : (readOperandWord w s).cycleCount = s.cycleCount := rfl
@[simp] theorem readOperandWord_mem (w : Word) (s : State) : (readOperandWord w s).mem = s.mem := rfl
@[simp] theorem readOperandWord_stepCycles (w : Word) (s : State) : (readOperandWord w s).stepCycles = s.stepCycles := rfl
@[simp] theorem readOperandWord_params (w : Word) (s : State) : (readOperandWord w s).params = s.params := rfl

@[simp] theorem markCross_a (b c : Word) (s : State) : (markCross b c s).a = s.a := rfl
@[simp] theorem markCross_x (b c : Word) (s : State) : (markCross b c s).x = s.x := rfl
@[simp] theorem markCross_y (b c : Word) (s : State) : (markCross b c s).y = s.y := rfl
@[simp] theorem markCross_sp (b c : Word) (s : State) : (markCross b c s).sp = s.sp := rfl
@[simp] theorem markCross_pc (b c : Word) (s : State) : (markCross b c s).pc = s.pc := rfl
@[simp] theorem markCross_p (b c : Word) (s : State) : (markCross b c s).p = s.p := rfl
@[simp] theorem markCross_pendingBranchCycle (b c : Word) (s : State) : (markCross b c s).pendingBranchCycle = s.pendingBranchCycle := rfl
@[simp] theorem markCross_pendingNMI (b c : Word) (s : State) : (markCross b c s).pendingNMI = s.pendingNMI := rfl
@[simp] theorem markCross_pendingIRQ (b c : Word) (s : State) : (markCross b c s).pendingIRQ = s.pendingIRQ := rfl
@[simp] theorem markCross_dmaCycles (b c : Word) (s : State) : (markCross b c s).dmaCycles = s.dmaCycles := rfl
@[simp] theorem markCross_cycleCount (b c : Word) (s : State) : (markCross b c s).cycleCount = s.cycleCount := rfl
@[simp] theorem markCross_mem (b c : Word) (s : State) : (markCross b c s).mem = s.mem := rfl
@[simp] theorem markCross_bus (b c : Word) (s : State) : (markCross b c s).bus = s.bus := rfl
@[simp] theorem markCross_stepCycles (b c : Word) (s : State) : (markCross b c s).stepCycles = s.stepCycles := rfl
@[simp] theorem markCross_busLog (b c : Word) (s : State) : (markCross b c s).busLog = s.busLog := rfl
@[simp] theorem markCross_params (b c : Word) (s : State) : (markCross b c s).params = s.params := rfl

@[simp] theorem resolveImplicit_a (s : State) : (resolveImplicit s).a = s.a := rfl
@[simp] theorem resolveImplicit_x (s : State) : (resolveImplicit s).x = s.x := rfl
@[simp] theorem resolveImplicit_y (s : State) : (resolveImplicit s).y = s.y := rfl
@[simp] theorem resolveImplicit_sp (s : State) : (resolveImplicit s).sp = s.sp := rfl
@[simp] theorem resolveImplicit_p (s : State) : (resolveImplicit s).p = s.p := rfl
@[simp] theorem resolveImplicit_pendingBranchCycle (s : State) : (resolveImplicit s).pendingBranchCycle = s.pendingBranchCycle := rfl
@[simp] theorem resolveImplicit_pendingOopsCycle (s : State) : (resolveImplicit s).pendingOopsCycle = s.pendingOopsCycle := rfl
@[simp] theorem resolveImplicit_pendingNMI (s : State) : (resolveImplicit s).pendingNMI = s.pendingNMI := rfl
@[simp] theorem resolveImplicit_pendingIRQ (s : State) : (resolveImplicit s).pendingIRQ = s.pendingIRQ := rfl
@[simp] theorem resolveImplicit_dmaCycles (s : State) : (resolveImplicit s).dmaCycles = s.dmaCycles := rfl
@[simp] theorem resolveImplicit_cycleCount (s : State) : (resolveImplicit s).cycleCount = s.cycleCount := rfl
@[simp] theorem resolveImplicit_mem (s : State) : (resolveImplicit s).mem = s.mem := rfl
@[simp] theorem resolveImplicit_bus (s : State) : (resolveImplicit s).bus = s.bus := rfl
@[simp] theorem resolveImplicit_stepCycles (s : State) : (resolveImplicit s).stepCycles = s.stepCycles := rfl
@[simp] theorem resolveImplicit_busLog (s : State) : (resolveImplicit s).busLog = s.busLog := rfl
@[simp] theorem resolveImplicit_params (s : State) : (resolveImplicit s).params = s.params := rfl

@[simp] theorem resolveRelative_a (rel : Byte) (s : State) : (resolveRelative rel s).2.a = s.a := by
  simp [resolveRelative]
@[simp] theorem resolveRelative_x (rel : Byte) (s : State) : (resolveRelative rel s).2.x = s.x := by
  simp [resolveRelative]
@[simp] theorem resolveRelative_y (rel : Byte) (s : State) : (resolveRelative rel s).2.y = s.y := by
  simp [resolveRelative]
@[simp] theorem resolveRelative_sp (rel : Byte) (s : State) : (resolveRelative rel s).2.sp = s.sp := by
  simp [resolveRelative]
@[simp] theorem resolveRelative_p (rel : Byte) (s : State) : (resolveRelative rel s).2.p = s.p := by
  simp [resolveRelative]
@[simp] theorem resolveRelative_pendingBranchCycle (rel : Byte) (s : State) : (resolveRelative rel s).2.pendingBranchCycle = s.pendingBranchCycle := by
  simp [resolveRelative]
@[simp] theorem resolveRelative_pendingNMI (rel : Byte) (s : State) : (resolveRelative rel s).2.pendingNMI = s.pendingNMI := by
  simp [resolveRelative]
@[simp] theorem resolveRelative_pendingIRQ (rel : Byte) (s : State) : (resolveRelative rel s).2.pendingIRQ = s.pendingIRQ := by
  simp [resolveRelative]
@[simp] theorem resolveRelative_dmaCycles (rel : Byte) (s : State) : (resolveRelative rel s).2.dmaCycles = s.dmaCycles := by
  simp [resolveRelative]
@[simp] theorem resolveRelative_cycleCount (rel : Byte) (s : State) : (resolveRelative rel s).2.cycleCount = s.cycleCount := by
  simp [resolveRelative]
@[simp] theorem resolveRelative_mem (rel : Byte) (s : State) : (resolveRelative rel s).2.mem = s.mem := by
  simp [resolveRelative]
@[simp] theorem resolveRelative_stepCycles (rel : Byte) (s : State) : (resolveRelative rel s).2.stepCycles = s.stepCycles := by
  simp [resolveRelative]
@[simp] theorem resolveRelative_params (rel : Byte) (s : State) : (resolveRelative rel s).2.params = s.params := by
  simp [resolveRelative]

@[simp] theorem resolveAbsolute_a (addr : Word) (s : State) : (resolveAbsolute addr s).2.a = s.a := by
  simp [resolveAbsolute]
@[simp] theorem resolveAbsolute_x (addr : Word) (s : State) : (resolveAbsolute addr s).2.x = s.x := by
  simp [resolveAbsolute]
@[simp] theorem resolveAbsolute_y (addr : Word) (s : State) : (resolveAbsolute addr s).2.y = s.y := by
  simp [resolveAbsolute]
@[simp] theorem resolveAbsolute_sp (addr : Word) (s : State) : (resolveAbsolute addr s).2.sp = s.sp := by
  simp [resolveAbsolute]
@[simp] theorem resolveAbsolute_p (addr : Word) (s : State) : (resolveAbsolute addr s).2.p = s.p := by
  simp [resolveAbsolute]
@[simp] theorem resolveAbsolute_pendingBranchCycle (addr : Word) (s : State) : (resolveAbsolute addr s).2.pendingBranchCycle = s.pendingBranchCycle := by
  simp [resolveAbsolute]
@[simp] theorem resolveAbsolute_pendingOopsCycle (addr : Word) (s : State) : (resolveAbsolute addr s).2.pendingOopsCycle = s.pendingOopsCycle := by
  simp [resolveAbsolute]
@[simp] theorem resolveAbsolute_pendingNMI (addr : Word) (s : State) : (resolveAbsolute addr s).2.pendingNMI = s.pendingNMI := by
  simp [resolveAbsolute]
@[simp] theorem resolveAbsolute_pendingIRQ (addr : Word) (s : State) : (resolveAbsolute addr s).2.pendingIRQ = s.pendingIRQ := by
  simp [resolveAbsolute]
@[simp] theorem resolveAbsolute_dmaCycles (addr : Word) (s : State) : (resolveAbsolute addr s).2.dmaCycles = s.dmaCycles := by
  simp [resolveAbsolute]
@[simp] theorem resolveAbsolute_cycleCount (addr : Word) (s : State) : (resolveAbsolute addr s).2.cycleCount = s.cycleCount := by
  simp [resolveAbsolute]
@[simp] theorem resolveAbsolute_mem (addr : Word) (s : State) : (resolveAbsolute addr s).2.mem = s.mem := by
  simp [resolveAbsolute]
@[simp] theorem resolveAbsolute_stepCycles (addr : Word) (s : State) : (resolveAbsolute addr s).2.stepCycles = s.stepCycles := by
  simp [resolveAbsolute]
@[simp] theorem resolveAbsolute_params (addr : Word) (s : State) : (resolveAbsolute addr s).2.params = s.params := by
  simp [resolveAbsolute]

@[simp] theorem resolveIndirect_a (ptr : Word) (s : State) : (resolveIndirect ptr s).2.a = s.a := by
  simp [resolveIndirect]
@[simp] theorem resolveIndirect_x (ptr : Word) (s : State) : (resolveIndirect ptr s).2.x = s.x := by
  simp [resolveIndirect]
@[simp] theorem resolveIndirect_y (ptr : Word) (s : State) : (resolveIndirect ptr s).2.y = s.y := by
  simp [resolveIndirect]
@[simp] theorem resolveIndirect_sp (ptr : Word) (s : State) : (resolveIndirect ptr s).2.sp = s.sp := by
  simp [resolveIndirect]
@[simp] theorem resolveIndirect_p (ptr : Word) (s : State) : (resolveIndirect ptr s).2.p = s.p := by
  simp [resolveIndirect]
@[simp] theorem resolveIndirect_pendingBranchCycle (ptr : Word) (s : State) : (resolveIndirect ptr s).2.pendingBranchCycle = s.pendingBranchCycle := by
  simp [resolveIndirect]
@[simp] theorem resolveIndirect_pendingOopsCycle (ptr : Word) (s : State) : (resolveIndirect ptr s).2.pendingOopsCycle = s.pendingOopsCycle := by
  simp [resolveIndirect]
@[simp] theorem resolveIndirect_pendingNMI (ptr : Word) (s : State) : (resolveIndirect ptr s).2.pendingNMI = s.pendingNMI := by
  simp [resolveIndirect]
@[simp] theorem resolveIndirect_pendingIRQ (ptr : Word) (s : State) : (resolveIndirect ptr s).2.pendingIRQ = s.pendingIRQ := by
  simp [resolveIndirect]
@[simp] theorem resolveIndirect_dmaCycles (ptr : Word) (s : State) : (resolveIndirect ptr s).2.dmaCycles = s.dmaCycles := by
  simp [resolveIndirect]
@[simp] theorem resolveIndirect_cycleCount (ptr : Word) (s : State) : (resolveIndirect ptr s).2.cycleCount = s.cycleCount := by
  simp [resolveIndirect]
@[simp] theorem resolveIndirect_mem (ptr : Word) (s : State) : (resolveIndirect ptr s).2.mem = s.mem := by
  simp [resolveIndirect]
@[simp] theorem resolveIndirect_stepCycles (ptr : Word) (s : State) : (resolveIndirect ptr s).2.stepCycles = s.stepCycles := by
  simp [resolveIndirect]
@[simp] theorem resolveIndirect_params (ptr : Word) (s : State) : (resolveIndirect ptr s).2.params = s.params := by
  simp [resolveIndirect]

@[simp] theorem resolve_a (op : Operand) (s : State) : (resolve op s).2.a = s.a := by
  cases op <;> simp [resolve, atAddress, resolveAccumulator, resolveImmediate, resolveZeroPage, resolveAbsoluteIndexed, resolveZeroPageIndexed,
    resolveIndexedIndirectX, resolveIndirectIndexedY]
@[simp] theorem resolve_x (op : Operand) (s : State) : (resolve op s).2.x = s.x := by
  cases op <;> simp [resolve, atAddress, resolveAccumulator, resolveImmediate, resolveZeroPage, resolveAbsoluteIndexed, resolveZeroPageIndexed,
    resolveIndexedIndirectX, resolveIndirectIndexedY]
@[simp] theorem resolve_y (op : Operand) (s : State) : (resolve op s).2.y = s.y := by
  cases op <;> simp [resolve, atAddress, resolveAccumulator, resolveImmediate, resolveZeroPage, resolveAbsoluteIndexed, resolveZeroPageIndexed,
    resolveIndexedIndirectX, resolveIndirectIndexedY]
@[simp] theorem resolve_sp (op : Operand) (s : State) : (resolve op s).2.sp = s.sp := by
  cases op <;> simp [resolve, atAddress, resolveAccumulator, resolveImmediate, resolveZeroPage, resolveAbsoluteIndexed, resolveZeroPageIndexed,
    resolveIndexedIndirectX, resolveIndirectIndexedY]
@[simp] theorem resolve_p (op : Operand) (s : State) : (resolve op s).2.p = s.p := by
  cases op <;> simp [resolve, atAddress, resolveAccumulator, resolveImmediate, resolveZeroPage, resolveAbsoluteIndexed, resolveZeroPageIndexed,
    resolveIndexedIndirectX, resolveIndirectIndexedY]
@[simp] theorem resolve_pendingBranchCycle (op : Operand) (s : State) : (resolve op s).2.pendingBranchCycle = s.pendingBranchCycle := by
  cases op <;> simp [resolve, atAddress, resolveAccumulator, resolveImmediate, resolveZeroPage, resolveAbsoluteIndexed, resolveZeroPageIndexed,
    resolveIndexedIndirectX, resolveIndirectIndexedY]
@[simp] theorem resolve_pendingNMI (op : Operand) (s : State) : (resolve op s).2.pendingNMI = s.pendingNMI := by
  cases op <;> simp [resolve, atAddress, resolveAccumulator, resolveImmediate, resolveZeroPage, resolveAbsoluteIndexed, resolveZeroPageIndexed,
    resolveIndexedIndirectX, resolveIndirectIndexedY]
@[simp] theorem resolve_pendingIRQ (op : Operand) (s : State) : (resolve op s).2.pendingIRQ = s.pendingIRQ := by
  cases op <;> simp [resolve, atAddress, resolveAccumulator, resolveImmediate, resolveZeroPage, resolveAbsoluteIndexed, resolveZeroPageIndexed,
    resolveIndexedIndirectX, resolveIndirectIndexedY]
@[simp] theorem resolve_dmaCycles (op : Operand) (s : State) : (resolve op s).2.dmaCycles = s.dmaCycles := by
  cases op <;> simp [resolve, atAddress, resolveAccumulator, resolveImmediate, resolveZeroPage, resolveAbsoluteIndexed, resolveZeroPageIndexed,
    resolveIndexedIndirectX, resolveIndirectIndexedY]
@[simp] theorem resolve_cycleCount (op : Operand) (s : State) : (resolve op s).2.cycleCount = s.cycleCount := by
  cases op <;> simp [resolve, atAddress, resolveAccumulator, resolveImmediate, resolveZeroPage, resolveAbsoluteIndexed, resolveZeroPageIndexed,
    resolveIndexedIndirectX, resolveIndirectIndexedY]
@[simp] theorem resolve_mem (op : Operand) (s : State) : (resolve op s).2.mem = s.mem := by
  cases op <;> simp [resolve, atAddress, resolveAccumulator, resolveImmediate, resolveZeroPage, resolveAbsoluteIndexed, resolveZeroPageIndexed,
    resolveIndexedIndirectX, resolveIndirectIndexedY]
@[simp] theorem resolve_stepCycles (op : Operand) (s : State) : (resolve op s).2.stepCycles = s.stepCycles := by
  cases op <;> simp [resolve, atAddress, resolveAccumulator, resolveImmediate, resolveZeroPage, resolveAbsoluteIndexed, resolveZeroPageIndexed,
    resolveIndexedIndirectX, resolveIndirectIndexedY]
@[simp] theorem resolve_params (op : Operand) (s : State) : (resolve op s).2.params = s.params := by
  cases op <;> simp [resolve, atAddress, resolveAccumulator, resolveImmediate, resolveZeroPage, resolveAbsoluteIndexed, resolveZeroPageIndexed,
    resolveIndexedIndirectX, resolveIndirectIndexedY]

@[simp] theorem readOperand_a (pl : Place) (s : State) : (readOperand pl s).2.a = s.a := by
  cases pl <;> rfl
@[simp] theorem readOperand_x (pl : Place) (s : State) : (readOperand pl s).2.x = s.x := by
  cases pl <;> rfl
@[simp] theorem readOperand_y (pl : Place) (s : State) : (readOperand pl s).2.y = s.y := by
  cases pl <;> rfl
@[simp] theorem readOperand_sp (pl : Place) (s : State) : (readOperand pl s).2.sp = s.sp := by
  cases pl <;> rfl
@[simp] theorem readOperand_pc (pl : Place) (s : State) : (readOperand pl s).2.pc = s.pc := by
  cases pl <;> rfl
@[simp] theorem readOperand_p (pl : Place) (s : State) : (readOperand pl s).2.p = s.p := by
  cases pl <;> rfl
@[simp] theorem readOperand_pendingBranchCycle (pl : Place) (s : State) : (readOperand pl s).2.pendingBranchCycle = s.pendingBranchCycle := by
  cases pl <;> rfl
@[simp] theorem readOperand_pendingOopsCycle (pl : Place) (s : State) : (readOperand pl s).2.pendingOopsCycle = s.pendingOopsCycle := by
  cases pl <;> rfl
@[simp] theorem readOperand_pendingNMI (pl : Place) (s : State) : (readOperand pl s).2.pendingNMI = s.pendingNMI := by
  cases pl <;> rfl
@[simp] theorem readOperand_pendingIRQ (pl : Place) (s : State) : (readOperand pl s).2.pendingIRQ = s.pendingIRQ := by
  cases pl <;> rfl
@[simp] theorem readOperand_dmaCycles (pl : Place) (s : State) : (readOperand pl s).2.dmaCycles = s.dmaCycles := by
  cases pl <;> rfl
@[simp] theorem readOperand_cycleCount (pl : Place) (s : State) : (readOperand pl s).2.cycleCount = s.cycleCount := by
  cases pl <;> rfl
@[simp] theorem readOperand_mem (pl : Place) (s : State) : (readOperand pl s).2.mem = s.mem := by
  cases pl <;> rfl
@[simp] theorem readOperand_stepCycles (pl : Place) (s : State) : (readOperand pl s).2.stepCycles = s.stepCycles := by
  cases pl <;> rfl
@[simp] theorem readOperand_params (pl : Place) (s : State) : (readOperand pl s).2.params = s.params := by
  cases pl <;> rfl

@[simp] theorem writeOperand_x (pl : Place) (v : Byte) (s : State) : (writeOperand pl v s).x = s.x := by
  cases pl <;> rfl
@[simp] theorem writeOperand_y (pl : Place) (v : Byte) (s : State) : (writeOperand pl v s).y = s.y := by
  cases pl <;> rfl
@[simp] theorem writeOperand_sp (pl : Place) (v : Byte) (s : State) : (writeOperand pl v s).sp = s.sp := by
  cases pl <;> rfl
@[simp] theorem writeOperand_pc (pl : Place) (v : Byte) (s : State) : (writeOperand pl v s).pc = s.pc := by
  cases pl <;> rfl
@[simp] theorem writeOperand_p (pl : Place) (v : Byte) (s : State) : (writeOperand pl v s).p = s.p := by
  cases pl <;> rfl
@[simp] theorem writeOperand_pendingBranchCycle (pl : Place) (v : Byte) (s : State) : (writeOperand pl v s).pendingBranchCycle = s.pendingBranchCycle := by
  cases pl <;> rfl
@[simp] theorem writeOperand_pendingOopsCycle (pl : Place) (v : Byte) (s : State) : (writeOperand pl v s).pendingOopsCycle = s.pendingOopsCycle := by
  cases pl <;> rfl
@[simp] theorem writeOperand_pendingNMI (pl : Place) (v : Byte) (s : State) : (writeOperand pl v s).pendingNMI = s.pendingNMI := by
  cases pl <;> rfl
@[simp] theorem writeOperand_pendingIRQ (pl : Place) (v : Byte) (s : State) : (writeOperand pl v s).pendingIRQ = s.pendingIRQ := by
  cases pl <;> rfl
@[simp] theorem writeOperand_dmaCycles (pl : Place) (v : Byte) (s : State) : (writeOperand pl v s).dmaCycles = s.dmaCycles := by
  cases pl <;> rfl
@[simp] theorem writeOperand_cycleCount (pl : Place) (v : Byte) (s : State) : (writeOperand pl v s).cycleCount = s.cycleCount := by
  cases pl <;> rfl
@[simp] theorem writeOperand_stepCycles (pl : Place) (v : Byte) (s : State) : (writeOperand pl v s).stepCycles = s.stepCycles := by
  cases pl <;> rfl
@[simp] theorem writeOperand_params (pl : Place) (v : Byte) (s : State) : (writeOperand pl v s).params = s.params := by
  cases pl <;> rfl

@[simp] theorem loadOperand_a (op : Operand) (s : State) : (loadOperand op s).2.a = s.a := by
  simp [loadOperand]
@[simp] theorem loadOperand_x (op : Operand) (s : State) : (loadOperand op s).2.x = s.x := by
  simp [loadOperand]
@[simp] theorem loadOperand_y (op : Operand) (s : State) : (loadOperand op s).2.y = s.y := by
  simp [loadOperand]
@[simp] theorem loadOperand_sp (op : Operand) (s : State) : (loadOperand op s).2.sp = s.sp := by
  simp [loadOperand]
@[simp] theorem loadOperand_p (op : Operand) (s : State) : (loadOperand op s).2.p = s.p := by
  simp [loadOperand]
@[simp] theorem loadOperand_pendingBranchCycle (op : Operand) (s : State) : (loadOperand op s).2.pendingBranchCycle = s.pendingBranchCycle := by
  simp [loadOperand]
@[simp] theorem loadOperand_pendingNMI (op : Operand) (s : State) : (loadOperand op s).2.pendingNMI = s.pendingNMI := by
  simp [loadOperand]
@[simp] theorem loadOperand_pendingIRQ (op : Operand) (s : State) : (loadOperand op s).2.pendingIRQ = s.pendingIRQ := by
  simp [loadOperand]
@[simp] theorem loadOperand_dmaCycles (op : Operand) (s : State) : (loadOperand op s).2.dmaCycles = s.dmaCycles := by
  simp [loadOperand]
@[simp] theorem loadOperand_cycleCount (op : Operand) (s : State) : (loadOperand op s).2.cycleCount = s.cycleCount := by
  simp [loadOperand]
@[simp] theorem loadOperand_mem (op : Operand) (s : State) : (loadOperand op s).2.mem = s.mem := by
  simp [loadOperand]
@[simp] theorem loadOperand_stepCycles (op : Operand) (s : State) : (loadOperand op s).2.stepCycles = s.stepCycles := by
  simp [loadOperand]
@[simp] theorem loadOperand_params (op : Operand) (s : State) : (loadOperand op s).2.params = s.params := by
  simp [loadOperand]

@[simp] theorem storeOperand_x (op : Operand) (v : Byte) (s : State) : (storeOperand op v s).x = s.x := by
  simp [storeOperand]
@[simp] theorem storeOperand_y (op : Operand) (v : Byte) (s : State) : (storeOperand op v s).y = s.y := by
  simp [storeOperand]
@[simp] theorem storeOperand_sp (op : Operand) (v : Byte) (s : State) : (storeOperand op v s).sp = s.sp := by
  simp [storeOperand]
@[simp] theorem storeOperand_p (op : Operand) (v : Byte) (s : State) : (storeOperand op v s).p = s.p := by
  simp [storeOperand]
@[simp] theorem storeOperand_pendingBranchCycle (op : Operand) (v : Byte) (s : State) : (storeOperand op v s).pendingBranchCycle = s.pendingBranchCycle := by
  simp [storeOperand]
@[simp] theorem storeOperand_pendingNMI (op : Operand) (v : Byte) (s : State) : (storeOperand op v s).pendingNMI = s.pendingNMI := by
  simp [storeOperand]
@[simp] theorem storeOperand_pendingIRQ (op : Operand) (v : Byte) (s : State) : (storeOperand op v s).pendingIRQ = s.pendingIRQ := by
  simp [storeOperand]
@[simp] theorem storeOperand_dmaCycles (op : Operand) (v : Byte) (s : State) : (storeOperand op v s).dmaCycles = s.dmaCycles := by
  simp [storeOperand]
@[simp] theorem storeOperand_cycleCount (op : Operand) (v : Byte) (s : State) : (storeOperand op v s).cycleCount = s.cycleCount := by
  simp [storeOperand]
@[simp] theorem storeOperand_stepCycles (op : Operand) (v : Byte) (s : State) : (storeOperand op v s).stepCycles = s.stepCycles := by
  simp [storeOperand]
@[simp] theorem storeOperand_params (op : Operand) (v : Byte) (s : State) : (storeOperand op v s).params = s.params := by
  simp [storeOperand]

@[simp] theorem modifyOperand_x (f : State → Byte → Byte) (g : State → Byte → Flags) (op : Operand) (s : State) : (modifyOperand f g op s).x = s.x := by
  simp [modifyOperand]
@[simp] theorem modifyOperand_y (f : State → Byte → Byte) (g : State → Byte → Flags) (op : Operand) (s : State) : (modifyOperand f g op s).y = s.y := by
  simp [modifyOperand]
@[simp] theorem modifyOperand_sp (f : State → Byte → Byte) (g : State → Byte → Flags) (op : Operand) (s : State) : (modifyOperand f g op s).sp = s.sp := by
  simp [modifyOperand]
@[simp] theorem modifyOperand_pendingBranchCycle (f : State → Byte → Byte) (g : State → Byte → Flags) (op : Operand) (s : State) : (modifyOperand f g op s).pendingBranchCycle = s.pendingBranchCycle := by
  simp [modifyOperand]
@[simp] theorem modifyOperand_pendingNMI (f : State → Byte → Byte) (g : State → Byte → Flags) (op : Operand) (s : State) : (modifyOperand f g op s).pendingNMI = s.pendingNMI := by
  simp [modifyOperand]
@[simp] theorem modifyOperand_pendingIRQ (f : State → Byte → Byte) (g : State → Byte → Flags) (op : Operand) (s : State) : (modifyOperand f g op s).pendingIRQ = s.pendingIRQ := by
  simp [modifyOperand]
@[simp] theorem modifyOperand_dmaCycles (f : State → Byte → Byte) (g : State → Byte → Flags) (op : Operand) (s : State) : (modifyOperand f g op s).dmaCycles = s.dmaCycles := by
  simp [modifyOperand]
@[simp] theorem modifyOperand_cycleCount (f : State → Byte → Byte) (g : State → Byte → Flags) (op : Operand) (s : State) : (modifyOperand f g op s).cycleCount = s.cycleCount := by
  simp [modifyOperand]
@[simp] theorem modifyOperand_stepCycles (f : State → Byte → Byte) (g : State → Byte → Flags) (op : Operand) (s : State) : (modifyOperand f g op s).stepCycles = s.stepCycles := by
  simp [modifyOperand]
@[simp] theorem modifyOperand_params (f : State → Byte → Byte) (g : State → Byte → Flags) (op : Operand) (s : State) : (modifyOperand f g op s).params = s.params := by
  simp [modifyOperand]

end Sys2Proof.Machine
end

