-- ==== Sys2Proof/Laws/Handlers.lean ====
section
/-! SUPPORT. The frame of each handler, field by field: one lemma for each field the handler leaves alone in every mode. -/

namespace Sys2Proof.Machine

@[simp] theorem combineA_x (f : Byte → Byte → Byte) (op : Operand) (s : State) : (combineA f op s).x = s.x := by
  simp [combineA]
@[simp] theorem combineA_y (f : Byte → Byte → Byte) (op : Operand) (s : State) : (combineA f op s).y = s.y := by
  simp [combineA]
@[simp] theorem combineA_sp (f : Byte → Byte → Byte) (op : Operand) (s : State) : (combineA f op s).sp = s.sp := by
  simp [combineA]
@[simp] theorem combineA_pendingBranchCycle (f : Byte → Byte → Byte) (op : Operand) (s : State) : (combineA f op s).pendingBranchCycle = s.pendingBranchCycle := by
  simp [combineA]
@[simp] theorem combineA_pendingNMI (f : Byte → Byte → Byte) (op : Operand) (s : State) : (combineA f op s).pendingNMI = s.pendingNMI := by
  simp [combineA]
@[simp] theorem combineA_pendingIRQ (f : Byte → Byte → Byte) (op : Operand) (s : State) : (combineA f op s).pendingIRQ = s.pendingIRQ := by
  simp [combineA]
@[simp] theorem combineA_dmaCycles (f : Byte → Byte → Byte) (op : Operand) (s : State) : (combineA f op s).dmaCycles = s.dmaCycles := by
  simp [combineA]
@[simp] theorem combineA_cycleCount (f : Byte → Byte → Byte) (op : Operand) (s : State) : (combineA f op s).cycleCount = s.cycleCount := by
  simp [combineA]
@[simp] theorem combineA_mem (f : Byte → Byte → Byte) (op : Operand) (s : State) : (combineA f op s).mem = s.mem := by
  simp [combineA]
@[simp] theorem combineA_stepCycles (f : Byte → Byte → Byte) (op : Operand) (s : State) : (combineA f op s).stepCycles = s.stepCycles := by
  simp [combineA]
@[simp] theorem combineA_params (f : Byte → Byte → Byte) (op : Operand) (s : State) : (combineA f op s).params = s.params := by
  simp [combineA]

@[simp] theorem andA_x (op : Operand) (s : State) : (andA op s).x = s.x := by
  simp [andA]
@[simp] theorem andA_y (op : Operand) (s : State) : (andA op s).y = s.y := by
  simp [andA]
@[simp] theorem andA_sp (op : Operand) (s : State) : (andA op s).sp = s.sp := by
  simp [andA]
@[simp] theorem andA_pendingBranchCycle (op : Operand) (s : State) : (andA op s).pendingBranchCycle = s.pendingBranchCycle := by
  simp [andA]
@[simp] theorem andA_pendingNMI (op : Operand) (s : State) : (andA op s).pendingNMI = s.pendingNMI := by
  simp [andA]
@[simp] theorem andA_pendingIRQ (op : Operand) (s : State) : (andA op s).pendingIRQ = s.pendingIRQ := by
  simp [andA]
@[simp] theorem andA_dmaCycles (op : Operand) (s : State) : (andA op s).dmaCycles = s.dmaCycles := by
  simp [andA]
@[simp] theorem andA_cycleCount (op : Operand) (s : State) : (andA op s).cycleCount = s.cycleCount := by
  simp [andA]
@[simp] theorem andA_mem (op : Operand) (s : State) : (andA op s).mem = s.mem := by
  simp [andA]
@[simp] theorem andA_stepCycles (op : Operand) (s : State) : (andA op s).stepCycles = s.stepCycles := by
  simp [andA]
@[simp] theorem andA_params (op : Operand) (s : State) : (andA op s).params = s.params := by
  simp [andA]

@[simp] theorem oraA_x (op : Operand) (s : State) : (oraA op s).x = s.x := by
  simp [oraA]
@[simp] theorem oraA_y (op : Operand) (s : State) : (oraA op s).y = s.y := by
  simp [oraA]
@[simp] theorem oraA_sp (op : Operand) (s : State) : (oraA op s).sp = s.sp := by
  simp [oraA]
@[simp] theorem oraA_pendingBranchCycle (op : Operand) (s : State) : (oraA op s).pendingBranchCycle = s.pendingBranchCycle := by
  simp [oraA]
@[simp] theorem oraA_pendingNMI (op : Operand) (s : State) : (oraA op s).pendingNMI = s.pendingNMI := by
  simp [oraA]
@[simp] theorem oraA_pendingIRQ (op : Operand) (s : State) : (oraA op s).pendingIRQ = s.pendingIRQ := by
  simp [oraA]
@[simp] theorem oraA_dmaCycles (op : Operand) (s : State) : (oraA op s).dmaCycles = s.dmaCycles := by
  simp [oraA]
@[simp] theorem oraA_cycleCount (op : Operand) (s : State) : (oraA op s).cycleCount = s.cycleCount := by
  simp [oraA]
@[simp] theorem oraA_mem (op : Operand) (s : State) : (oraA op s).mem = s.mem := by
  simp [oraA]
@[simp] theorem oraA_stepCycles (op : Operand) (s : State) : (oraA op s).stepCycles = s.stepCycles := by
  simp [oraA]
@[simp] theorem oraA_params (op : Operand) (s : State) : (oraA op s).params = s.params := by
  simp [oraA]

@[simp] theorem eorA_x (op : Operand) (s : State) : (eorA op s).x = s.x := by
  simp [eorA]
@[simp] theorem eorA_y (op : Operand) (s : State) : (eorA op s).y = s.y := by
  simp [eorA]
@[simp] theorem eorA_sp (op : Operand) (s : State) : (eorA op s).sp = s.sp := by
  simp [eorA]
@[simp] theorem eorA_pendingBranchCycle (op : Operand) (s : State) : (eorA op s).pendingBranchCycle = s.pendingBranchCycle := by
  simp [eorA]
@[simp] theorem eorA_pendingNMI (op : Operand) (s : State) : (eorA op s).pendingNMI = s.pendingNMI := by
  simp [eorA]
@[simp] theorem eorA_pendingIRQ (op : Operand) (s : State) : (eorA op s).pendingIRQ = s.pendingIRQ := by
  simp [eorA]
@[simp] theorem eorA_dmaCycles (op : Operand) (s : State) : (eorA op s).dmaCycles = s.dmaCycles := by
  simp [eorA]
@[simp] theorem eorA_cycleCount (op : Operand) (s : State) : (eorA op s).cycleCount = s.cycleCount := by
  simp [eorA]
@[simp] theorem eorA_mem (op : Operand) (s : State) : (eorA op s).mem = s.mem := by
  simp [eorA]
@[simp] theorem eorA_stepCycles (op : Operand) (s : State) : (eorA op s).stepCycles = s.stepCycles := by
  simp [eorA]
@[simp] theorem eorA_params (op : Operand) (s : State) : (eorA op s).params = s.params := by
  simp [eorA]

@[simp] theorem lda_x (op : Operand) (s : State) : (lda op s).x = s.x := by
  simp [lda]
@[simp] theorem lda_y (op : Operand) (s : State) : (lda op s).y = s.y := by
  simp [lda]
@[simp] theorem lda_sp (op : Operand) (s : State) : (lda op s).sp = s.sp := by
  simp [lda]
@[simp] theorem lda_pendingBranchCycle (op : Operand) (s : State) : (lda op s).pendingBranchCycle = s.pendingBranchCycle := by
  simp [lda]
@[simp] theorem lda_pendingNMI (op : Operand) (s : State) : (lda op s).pendingNMI = s.pendingNMI := by
  simp [lda]
@[simp] theorem lda_pendingIRQ (op : Operand) (s : State) : (lda op s).pendingIRQ = s.pendingIRQ := by
  simp [lda]
@[simp] theorem lda_dmaCycles (op : Operand) (s : State) : (lda op s).dmaCycles = s.dmaCycles := by
  simp [lda]
@[simp] theorem lda_cycleCount (op : Operand) (s : State) : (lda op s).cycleCount = s.cycleCount := by
  simp [lda]
@[simp] theorem lda_mem (op : Operand) (s : State) : (lda op s).mem = s.mem := by
  simp [lda]
@[simp] theorem lda_stepCycles (op : Operand) (s : State) : (lda op s).stepCycles = s.stepCycles := by
  simp [lda]
@[simp] theorem lda_params (op : Operand) (s : State) : (lda op s).params = s.params := by
  simp [lda]

@[simp] theorem shiftOperand_x (f : Bool → Byte → Shifted) (op : Operand) (s : State) : (shiftOperand f op s).x = s.x := by
  simp [shiftOperand]
@[simp] theorem shiftOperand_y (f : Bool → Byte → Shifted) (op : Operand) (s : State) : (shiftOperand f op s).y = s.y := by
  simp [shiftOperand]
@[simp] theorem shiftOperand_sp (f : Bool → Byte → Shifted) (op : Operand) (s : State) : (shiftOperand f op s).sp = s.sp := by
  simp [shiftOperand]
@[simp] theorem shiftOperand_pendingBranchCycle (f : Bool → Byte → Shifted) (op : Operand) (s : State) : (shiftOperand f op s).pendingBranchCycle = s.pendingBranchCycle := by
  simp [shiftOperand]
@[simp] theorem shiftOperand_pendingNMI (f : Bool → Byte → Shifted) (op : Operand) (s : State) : (shiftOperand f op s).pendingNMI = s.pendingNMI := by
  simp [shiftOperand]
@[simp] theorem shiftOperand_pendingIRQ (f : Bool → Byte → Shifted) (op : Operand) (s : State) : (shiftOperand f op s).pendingIRQ = s.pendingIRQ := by
  simp [shiftOperand]
@[simp] theorem shiftOperand_dmaCycles (f : Bool → Byte → Shifted) (op : Operand) (s : State) : (shiftOperand f op s).dmaCycles = s.dmaCycles := by
  simp [shiftOperand]
@[simp] theorem shiftOperand_cycleCount (f : Bool → Byte → Shifted) (op : Operand) (s : State) : (shiftOperand f op s).cycleCount = s.cycleCount := by
  simp [shiftOperand]
@[simp] theorem shiftOperand_stepCycles (f : Bool → Byte → Shifted) (op : Operand) (s : State) : (shiftOperand f op s).stepCycles = s.stepCycles := by
  simp [shiftOperand]
@[simp] theorem shiftOperand_params (f : Bool → Byte → Shifted) (op : Operand) (s : State) : (shiftOperand f op s).params = s.params := by
  simp [shiftOperand]

@[simp] theorem asl_x (op : Operand) (s : State) : (asl op s).x = s.x := by
  simp [asl]
@[simp] theorem asl_y (op : Operand) (s : State) : (asl op s).y = s.y := by
  simp [asl]
@[simp] theorem asl_sp (op : Operand) (s : State) : (asl op s).sp = s.sp := by
  simp [asl]
@[simp] theorem asl_pendingBranchCycle (op : Operand) (s : State) : (asl op s).pendingBranchCycle = s.pendingBranchCycle := by
  simp [asl]
@[simp] theorem asl_pendingNMI (op : Operand) (s : State) : (asl op s).pendingNMI = s.pendingNMI := by
  simp [asl]
@[simp] theorem asl_pendingIRQ (op : Operand) (s : State) : (asl op s).pendingIRQ = s.pendingIRQ := by
  simp [asl]
@[simp] theorem asl_dmaCycles (op : Operand) (s : State) : (asl op s).dmaCycles = s.dmaCycles := by
  simp [asl]
@[simp] theorem asl_cycleCount (op : Operand) (s : State) : (asl op s).cycleCount = s.cycleCount := by
  simp [asl]
@[simp] theorem asl_stepCycles (op : Operand) (s : State) : (asl op s).stepCycles = s.stepCycles := by
  simp [asl]
@[simp] theorem asl_params (op : Operand) (s : State) : (asl op s).params = s.params := by
  simp [asl]

@[simp] theorem lsr_x (op : Operand) (s : State) : (lsr op s).x = s.x := by
  simp [lsr]
@[simp] theorem lsr_y (op : Operand) (s : State) : (lsr op s).y = s.y := by
  simp [lsr]
@[simp] theorem lsr_sp (op : Operand) (s : State) : (lsr op s).sp = s.sp := by
  simp [lsr]
@[simp] theorem lsr_pendingBranchCycle (op : Operand) (s : State) : (lsr op s).pendingBranchCycle = s.pendingBranchCycle := by
  simp [lsr]
@[simp] theorem lsr_pendingNMI (op : Operand) (s : State) : (lsr op s).pendingNMI = s.pendingNMI := by
  simp [lsr]
@[simp] theorem lsr_pendingIRQ (op : Operand) (s : State) : (lsr op s).pendingIRQ = s.pendingIRQ := by
  simp [lsr]
@[simp] theorem lsr_dmaCycles (op : Operand) (s : State) : (lsr op s).dmaCycles = s.dmaCycles := by
  simp [lsr]
@[simp] theorem lsr_cycleCount (op : Operand) (s : State) : (lsr op s).cycleCount = s.cycleCount := by
  simp [lsr]
@[simp] theorem lsr_stepCycles (op : Operand) (s : State) : (lsr op s).stepCycles = s.stepCycles := by
  simp [lsr]
@[simp] theorem lsr_params (op : Operand) (s : State) : (lsr op s).params = s.params := by
  simp [lsr]

@[simp] theorem rol_x (op : Operand) (s : State) : (rol op s).x = s.x := by
  simp [rol]
@[simp] theorem rol_y (op : Operand) (s : State) : (rol op s).y = s.y := by
  simp [rol]
@[simp] theorem rol_sp (op : Operand) (s : State) : (rol op s).sp = s.sp := by
  simp [rol]
@[simp] theorem rol_pendingBranchCycle (op : Operand) (s : State) : (rol op s).pendingBranchCycle = s.pendingBranchCycle := by
  simp [rol]
@[simp] theorem rol_pendingNMI (op : Operand) (s : State) : (rol op s).pendingNMI = s.pendingNMI := by
  simp [rol]
@[simp] theorem rol_pendingIRQ (op : Operand) (s : State) : (rol op s).pendingIRQ = s.pendingIRQ := by
  simp [rol]
@[simp] theorem rol_dmaCycles (op : Operand) (s : State) : (rol op s).dmaCycles = s.dmaCycles := by
  simp [rol]
@[simp] theorem rol_cycleCount (op : Operand) (s : State) : (rol op s).cycleCount = s.cycleCount := by
  simp [rol]
@[simp] theorem rol_stepCycles (op : Operand) (s : State) : (rol op s).stepCycles = s.stepCycles := by
  simp [rol]
@[simp] theorem rol_params (op : Operand) (s : State) : (rol op s).params = s.params := by
  simp [rol]

@[simp] theorem ror_x (op : Operand) (s : State) : (ror op s).x = s.x := by
  simp [ror]
@[simp] theorem ror_y (op : Operand) (s : State) : (ror op s).y = s.y := by
  simp [ror]
@[simp] theorem ror_sp (op : Operand) (s : State) : (ror op s).sp = s.sp := by
  simp [ror]
@[simp] theorem ror_pendingBranchCycle (op : Operand) (s : State) : (ror op s).pendingBranchCycle = s.pendingBranchCycle := by
  simp [ror]
@[simp] theorem ror_pendingNMI (op : Operand) (s : State) : (ror op s).pendingNMI = s.pendingNMI := by
  simp [ror]
@[simp] theorem ror_pendingIRQ (op : Operand) (s : State) : (ror op s).pendingIRQ = s.pendingIRQ := by
  simp [ror]
@[simp] theorem ror_dmaCycles (op : Operand) (s : State) : (ror op s).dmaCycles = s.dmaCycles := by
  simp [ror]
@[simp] theorem ror_cycleCount (op : Operand) (s : State) : (ror op s).cycleCount = s.cycleCount := by
  simp [ror]
@[simp] theorem ror_stepCycles (op : Operand) (s : State) : (ror op s).stepCycles = s.stepCycles := by
  simp [ror]
@[simp] theorem ror_params (op : Operand) (s : State) : (ror op s).params = s.params := by
  simp [ror]

@[simp] theorem inc_x (op : Operand) (s : State) : (inc op s).x = s.x := by
  simp [inc]
@[simp] theorem inc_y (op : Operand) (s : State) : (inc op s).y = s.y := by
  simp [inc]
@[simp] theorem inc_sp (op : Operand) (s : State) : (inc op s).sp = s.sp := by
  simp [inc]
@[simp] theorem inc_pendingBranchCycle (op : Operand) (s : State) : (inc op s).pendingBranchCycle = s.pendingBranchCycle := by
  simp [inc]
@[simp] theorem inc_pendingNMI (op : Operand) (s : State) : (inc op s).pendingNMI = s.pendingNMI := by
  simp [inc]
@[simp] theorem inc_pendingIRQ (op : Operand) (s : State) : (inc op s).pendingIRQ = s.pendingIRQ := by
  simp [inc]
@[simp] theorem inc_dmaCycles (op : Operand) (s : State) : (inc op s).dmaCycles = s.dmaCycles := by
  simp [inc]
@[simp] theorem inc_cycleCount (op : Operand) (s : State) : (inc op s).cycleCount = s.cycleCount := by
  simp [inc]
@[simp] theorem inc_stepCycles (op : Operand) (s : State) : (inc op s).stepCycles = s.stepCycles := by
  simp [inc]
@[simp] theorem inc_params (op : Operand) (s : State) : (inc op s).params = s.params := by
  simp [inc]

@[simp] theorem dec_x (op : Operand) (s : State) : (dec op s).x = s.x := by
  simp [dec]
@[simp] theorem dec_y (op : Operand) (s : State) : (dec op s).y = s.y := by
  simp [dec]
@[simp] theorem dec_sp (op : Operand) (s : State) : (dec op s).sp = s.sp := by
  simp [dec]
@[simp] theorem dec_pendingBranchCycle (op : Operand) (s : State) : (dec op s).pendingBranchCycle = s.pendingBranchCycle := by
  simp [dec]
@[simp] theorem dec_pendingNMI (op : Operand) (s : State) : (dec op s).pendingNMI = s.pendingNMI := by
  simp [dec]
@[simp] theorem dec_pendingIRQ (op : Operand) (s : State) : (dec op s).pendingIRQ = s.pendingIRQ := by
  simp [dec]
@[simp] theorem dec_dmaCycles (op : Operand) (s : State) : (dec op s).dmaCycles = s.dmaCycles := by
  simp [dec]
@[simp] theorem dec_cycleCount (op : Operand) (s : State) : (dec op s).cycleCount = s.cycleCount := by
  simp [dec]
@[simp] theorem dec_stepCycles (op : Operand) (s : State) : (dec op s).stepCycles = s.stepCycles := by
  simp [dec]
@[simp] theorem dec_params (op : Operand) (s : State) : (dec op s).params = s.params := by
  simp [dec]

@[simp] theorem branch_a (cond : Bool) (rel : Byte) (s : State) : (branch cond rel s).a = s.a := by
  cases cond <;> simp [branch]
@[simp] theorem branch_x (cond : Bool) (rel : Byte) (s : State) : (branch cond rel s).x = s.x := by
  cases cond <;> simp [branch]
@[simp] theorem branch_y (cond : Bool) (rel : Byte) (s : State) : (branch cond rel s).y = s.y := by
  cases cond <;> simp [branch]
@[simp] theorem branch_sp (cond : Bool) (rel : Byte) (s : State) : (branch cond rel s).sp = s.sp := by
  cases cond <;> simp [branch]
@[simp] theorem branch_p (cond : Bool) (rel : Byte) (s : State) : (branch cond rel s).p = s.p := by
  cases cond <;> simp [branch]
@[simp] theorem branch_pendingNMI (cond : Bool) (rel : Byte) (s : State) : (branch cond rel s).pendingNMI = s.pendingNMI := by
  cases cond <;> simp [branch]
@[simp] theorem branch_pendingIRQ (cond : Bool) (rel : Byte) (s : State) : (branch cond rel s).pendingIRQ = s.pendingIRQ := by
  cases cond <;> simp [branch]
@[simp] theorem branch_dmaCycles (cond : Bool) (rel : Byte) (s : State) : (branch cond rel s).dmaCycles = s.dmaCycles := by
  cases cond <;> simp [branch]
@[simp] theorem branch_cycleCount (cond : Bool) (rel : Byte) (s : State) : (branch cond rel s).cycleCount = s.cycleCount := by
  cases cond <;> simp [branch]
@[simp] theorem branch_mem (cond : Bool) (rel : Byte) (s : State) : (branch cond rel s).mem = s.mem := by
  cases cond <;> simp [branch]
@[simp] theorem branch_stepCycles (cond : Bool) (rel : Byte) (s : State) : (branch cond rel s).stepCycles = s.stepCycles := by
  cases cond <;> simp [branch]
@[simp] theorem branch_params (cond : Bool) (rel : Byte) (s : State) : (branch cond rel s).params = s.params := by
  cases cond <;> simp [branch]

@[simp] theorem compareWith_a (r : Byte) (op : Operand) (s : State) : (compareWith r op s).a = s.a := by
  simp [compareWith]
@[simp] theorem compareWith_x (r : Byte) (op : Operand) (s : State) : (compareWith r op s).x = s.x := by
  simp [compareWith]
@[simp] theorem compareWith_y (r : Byte) (op : Operand) (s : State) : (compareWith r op s).y = s.y := by
  simp [compareWith]
@[simp] theorem compareWith_sp (r : Byte) (op : Operand) (s : State) : (compareWith r op s).sp = s.sp := by
  simp [compareWith]
@[simp] theorem compareWith_pendingBranchCycle (r : Byte) (op : Operand) (s : State) : (compareWith r op s).pendingBranchCycle = s.pendingBranchCycle := by
  simp [compareWith]
@[simp] theorem compareWith_pendingNMI (r : Byte) (op : Operand) (s : State) : (compareWith r op s).pendingNMI = s.pendingNMI := by
  simp [compareWith]
@[simp] theorem compareWith_pendingIRQ (r : Byte) (op : Operand) (s : State) : (compareWith r op s).pendingIRQ = s.pendingIRQ := by
  simp [compareWith]
@[simp] theorem compareWith_dmaCycles (r : Byte) (op : Operand) (s : State) : (compareWith r op s).dmaCycles = s.dmaCycles := by
  simp [compareWith]
@[simp] theorem compareWith_cycleCount (r : Byte) (op : Operand) (s : State) : (compareWith r op s).cycleCount = s.cycleCount := by
  simp [compareWith]
@[simp] theorem compareWith_mem (r : Byte) (op : Operand) (s : State) : (compareWith r op s).mem = s.mem := by
  simp [compareWith]
@[simp] theorem compareWith_stepCycles (r : Byte) (op : Operand) (s : State) : (compareWith r op s).stepCycles = s.stepCycles := by
  simp [compareWith]
@[simp] theorem compareWith_params (r : Byte) (op : Operand) (s : State) : (compareWith r op s).params = s.params := by
  simp [compareWith]

@[simp] theorem cmp_a (op : Operand) (s : State) : (cmp op s).a = s.a := by
  simp [cmp]
@[simp] theorem cmp_x (op : Operand) (s : State) : (cmp op s).x = s.x := by
  simp [cmp]
@[simp] theorem cmp_y (op : Operand) (s : State) : (cmp op s).y = s.y := by
  simp [cmp]
@[simp] theorem cmp_sp (op : Operand) (s : State) : (cmp op s).sp = s.sp := by
  simp [cmp]
@[simp] theorem cmp_pendingBranchCycle (op : Operand) (s : State) : (cmp op s).pendingBranchCycle = s.pendingBranchCycle := by
  simp [cmp]
@[simp] theorem cmp_pendingNMI (op : Operand) (s : State) : (cmp op s).pendingNMI = s.pendingNMI := by
  simp [cmp]
@[simp] theorem cmp_pendingIRQ (op : Operand) (s : State) : (cmp op s).pendingIRQ = s.pendingIRQ := by
  simp [cmp]
@[simp] theorem cmp_dmaCycles (op : Operand) (s : State) : (cmp op s).dmaCycles = s.dmaCycles := by
  simp [cmp]
@[simp] theorem cmp_cycleCount (op : Operand) (s : State) : (cmp op s).cycleCount = s.cycleCount := by
  simp [cmp]
@[simp] theorem cmp_mem (op : Operand) (s : State) : (cmp op s).mem = s.mem := by
  simp [cmp]
@[simp] theorem cmp_stepCycles (op : Operand) (s : State) : (cmp op s).stepCycles = s.stepCycles := by
  simp [cmp]
@[simp] theorem cmp_params (op : Operand) (s : State) : (cmp op s).params = s.params := by
  simp [cmp]

@[simp] theorem cpx_a (op : Operand) (s : State) : (cpx op s).a = s.a := by
  simp [cpx]
@[simp] theorem cpx_x (op : Operand) (s : State) : (cpx op s).x = s.x := by
  simp [cpx]
@[simp] theorem cpx_y (op : Operand) (s : State) : (cpx op s).y = s.y := by
  simp [cpx]
@[simp] theorem cpx_sp (op : Operand) (s : State) : (cpx op s).sp = s.sp := by
  simp [cpx]
@[simp] theorem cpx_pendingBranchCycle (op : Operand) (s : State) : (cpx op s).pendingBranchCycle = s.pendingBranchCycle := by
  simp [cpx]
@[simp] theorem cpx_pendingNMI (op : Operand) (s : State) : (cpx op s).pendingNMI = s.pendingNMI := by
  simp [cpx]
@[simp] theorem cpx_pendingIRQ (op : Operand) (s : State) : (cpx op s).pendingIRQ = s.pendingIRQ := by
  simp [cpx]
@[simp] theorem cpx_dmaCycles (op : Operand) (s : State) : (cpx op s).dmaCycles = s.dmaCycles := by
  simp [cpx]
@[simp] theorem cpx_cycleCount (op : Operand) (s : State) : (cpx op s).cycleCount = s.cycleCount := by
  simp [cpx]
@[simp] theorem cpx_mem (op : Operand) (s : State) : (cpx op s).mem = s.mem := by
  simp [cpx]
@[simp] theorem cpx_stepCycles (op : Operand) (s : State) : (cpx op s).stepCycles = s.stepCycles := by
  simp [cpx]
@[simp] theorem cpx_params (op : Operand) (s : State) : (cpx op s).params = s.params := by
  simp [cpx]

@[simp] theorem cpy_a (op : Operand) (s : State) : (cpy op s).a = s.a := by
  simp [cpy]
@[simp] theorem cpy_x (op : Operand) (s : State) : (cpy op s).x = s.x := by
  simp [cpy]
@[simp] theorem cpy_y (op : Operand) (s : State) : (cpy op s).y = s.y := by
  simp [cpy]
@[simp] theorem cpy_sp (op : Operand) (s : State) : (cpy op s).sp = s.sp := by
  simp [cpy]
@[simp] theorem cpy_pendingBranchCycle (op : Operand) (s : State) : (cpy op s).pendingBranchCycle = s.pendingBranchCycle := by
  simp [cpy]
@[simp] theorem cpy_pendingNMI (op : Operand) (s : State) : (cpy op s).pendingNMI = s.pendingNMI := by
  simp [cpy]
@[simp] theorem cpy_pendingIRQ (op : Operand) (s : State) : (cpy op s).pendingIRQ = s.pendingIRQ := by
  simp [cpy]
@[simp] theorem cpy_dmaCycles (op : Operand) (s : State) : (cpy op s).dmaCycles = s.dmaCycles := by
  simp [cpy]
@[simp] theorem cpy_cycleCount (op : Operand) (s : State) : (cpy op s).cycleCount = s.cycleCount := by
  simp [cpy]
@[simp] theorem cpy_mem (op : Operand) (s : State) : (cpy op s).mem = s.mem := by
  simp [cpy]
@[simp] theorem cpy_stepCycles (op : Operand) (s : State) : (cpy op s).stepCycles = s.stepCycles := by
  simp [cpy]
@[simp] theorem cpy_params (op : Operand) (s : State) : (cpy op s).params = s.params := by
  simp [cpy]

@[simp] theorem bitTest_a (op : Operand) (s : State) : (bitTest op s).a = s.a := by
  simp [bitTest]
@[simp] theorem bitTest_x (op : Operand) (s : State) : (bitTest op s).x = s.x := by
  simp [bitTest]
@[simp] theorem bitTest_y (op : Operand) (s : State) : (bitTest op s).y = s.y := by
  simp [bitTest]
@[simp] theorem bitTest_sp (op : Operand) (s : State) : (bitTest op s).sp = s.sp := by
  simp [bitTest]
@[simp] theorem bitTest_pendingBranchCycle (op : Operand) (s : State) : (bitTest op s).pendingBranchCycle = s.pendingBranchCycle := by
  simp [bitTest]
@[simp] theorem bitTest_pendingNMI (op : Operand) (s : State) : (bitTest op s).pendingNMI = s.pendingNMI := by
  simp [bitTest]
@[simp] theorem bitTest_pendingIRQ (op : Operand) (s : State) : (bitTest op s).pendingIRQ = s.pendingIRQ := by
  simp [bitTest]
@[simp] theorem bitTest_dmaCycles (op : Operand) (s : State) : (bitTest op s).dmaCycles = s.dmaCycles := by
  simp [bitTest]
@[simp] theorem bitTest_cycleCount (op : Operand) (s : State) : (bitTest op s).cycleCount = s.cycleCount := by
  simp [bitTest]
@[simp] theorem bitTest_mem (op : Operand) (s : State) : (bitTest op s).mem = s.mem := by
  simp [bitTest]
@[simp] theorem bitTest_stepCycles (op : Operand) (s : State) : (bitTest op s).stepCycles = s.stepCycles := by
  simp [bitTest]
@[simp] theorem bitTest_params (op : Operand) (s : State) : (bitTest op s).params = s.params := by
  simp [bitTest]

@[simp] theorem changeFlags_a (f : Flags → Flags) (s : State) : (changeFlags f s).a = s.a := by
  simp [changeFlags]
@[simp] theorem changeFlags_x (f : Flags → Flags) (s : State) : (changeFlags f s).x = s.x := by
  simp [changeFlags]
@[simp] theorem changeFlags_y (f : Flags → Flags) (s : State) : (changeFlags f s).y = s.y := by
  simp [changeFlags]
@[simp] theorem changeFlags_sp (f : Flags → Flags) (s : State) : (changeFlags f s).sp = s.sp := by
  simp [changeFlags]
@[simp] theorem changeFlags_pendingBranchCycle (f : Flags → Flags) (s : State) : (changeFlags f s).pendingBranchCycle = s.pendingBranchCycle := by
  simp [changeFlags]
@[simp] theorem changeFlags_pendingOopsCycle (f : Flags → Flags) (s : State) : (changeFlags f s).pendingOopsCycle = s.pendingOopsCycle := by
  simp [changeFlags]
@[simp] theorem changeFlags_pendingNMI (f : Flags → Flags) (s : State) : (changeFlags f s).pendingNMI = s.pendingNMI := by
  simp [changeFlags]
@[simp] theorem changeFlags_pendingIRQ (f : Flags → Flags) (s : State) : (changeFlags f s).pendingIRQ = s.pendingIRQ := by
  simp [changeFlags]
@[simp] theorem changeFlags_dmaCycles (f : Flags → Flags) (s : State) : (changeFlags f s).dmaCycles = s.dmaCycles := by
  simp [changeFlags]
@[simp] theorem changeFlags_cycleCount (f : Flags → Flags) (s : State) : (changeFlags f s).cycleCount = s.cycleCount := by
  simp [changeFlags]
@[simp] theorem changeFlags_mem (f : Flags → Flags) (s : State) : (changeFlags f s).mem = s.mem := by
  simp [changeFlags]
@[simp] theorem changeFlags_bus (f : Flags → Flags) (s : State) : (changeFlags f s).bus = s.bus := by
  simp [changeFlags]
@[simp] theorem changeFlags_stepCycles (f : Flags → Flags) (s : State) : (changeFlags f s).stepCycles = s.stepCycles := by
  simp [changeFlags]
@[simp] theorem changeFlags_busLog (f : Flags → Flags) (s : State) : (changeFlags f s).busLog = s.busLog := by
  simp [changeFlags]
@[simp] theorem changeFlags_params (f : Flags → Flags) (s : State) : (changeFlags f s).params = s.params := by
  simp [changeFlags]

@[simp] theorem jumpTo_a (t : Word) (s : State) : (jumpTo (t, s)).a = s.a := rfl
@[simp] theorem jumpTo_x (t : Word) (s : State) : (jumpTo (t, s)).x = s.x := rfl
@[simp] theorem jumpTo_y (t : Word) (s : State) : (jumpTo (t, s)).y = s.y := rfl
@[simp] theorem jumpTo_sp (t : Word) (s : State) : (jumpTo (t, s)).sp = s.sp := rfl
@[simp] theorem jumpTo_p (t : Word) (s : State) : (jumpTo (t, s)).p = s.p := rfl
@[simp] theorem jumpTo_pendingBranchCycle (t : Word) (s : State) : (jumpTo (t, s)).pendingBranchCycle = s.pendingBranchCycle := rfl
@[simp] theorem jumpTo_pendingOopsCycle (t : Word) (s : State) : (jumpTo (t, s)).pendingOopsCycle = s.pendingOopsCycle := rfl
@[simp] theorem jumpTo_pendingNMI (t : Word) (s : State) : (jumpTo (t, s)).pendingNMI = s.pendingNMI := rfl
@[simp] theorem jumpTo_pendingIRQ (t : Word) (s : State) : (jumpTo (t, s)).pendingIRQ = s.pendingIRQ := rfl
@[simp] theorem jumpTo_dmaCycles (t : Word) (s : State) : (jumpTo (t, s)).dmaCycles = s.dmaCycles := rfl
@[simp] theorem jumpTo_cycleCount (t : Word) (s : State) : (jumpTo (t, s)).cycleCount = s.cycleCount := rfl
@[simp] theorem jumpTo_mem (t : Word) (s : State) : (jumpTo (t, s)).mem = s.mem := rfl
@[simp] theorem jumpTo_bus (t : Word) (s : State) : (jumpTo (t, s)).bus = s.bus := rfl
@[simp] theorem jumpTo_stepCycles (t : Word) (s : State) : (jumpTo (t, s)).stepCycles = s.stepCycles := rfl
@[simp] theorem jumpTo_busLog (t : Word) (s : State) : (jumpTo (t, s)).busLog = s.busLog := rfl
@[simp] theorem jumpTo_params (t : Word) (s : State) : (jumpTo (t, s)).params = s.params := rfl

@[simp] theorem jsr_a (addr : Word) (s : State) : (jsr addr s).a = s.a := by
  simp [jsr]
@[simp] theorem jsr_x (addr : Word) (s : State) : (jsr addr s).x = s.x := by
  simp [jsr]
@[simp] theorem jsr_y (addr : Word) (s : State) : (jsr addr s).y = s.y := by
  simp [jsr]
@[simp] theorem jsr_p (addr : Word) (s : State) : (jsr addr s).p = s.p := by
  simp [jsr]
@[simp] theorem jsr_pendingBranchCycle (addr : Word) (s : State) : (jsr addr s).pendingBranchCycle = s.pendingBranchCycle := by
  simp [jsr]
@[simp] theorem jsr_pendingOopsCycle (addr : Word) (s : State) : (jsr addr s).pendingOopsCycle = s.pendingOopsCycle := by
  simp [jsr]
@[simp] theorem jsr_pendingNMI (addr : Word) (s : State) : (jsr addr s).pendingNMI = s.pendingNMI := by
  simp [jsr]
@[simp] theorem jsr_pendingIRQ (addr : Word) (s : State) : (jsr addr s).pendingIRQ = s.pendingIRQ := by
  simp [jsr]
@[simp] theorem jsr_dmaCycles (addr : Word) (s : State) : (jsr addr s).dmaCycles = s.dmaCycles := by
  simp [jsr]
@[simp] theorem jsr_cycleCount (addr : Word) (s : State) : (jsr addr s).cycleCount = s.cycleCount := by
  simp [jsr]
@[simp] theorem jsr_stepCycles (addr : Word) (s : State) : (jsr addr s).stepCycles = s.stepCycles := by
  simp [jsr]
@[simp] theorem jsr_params (addr : Word) (s : State) : (jsr addr s).params = s.params := by
  simp [jsr]

@[simp] theorem rts_a (s : State) : (rts s).a = s.a := by
  simp [rts]
@[simp] theorem rts_x (s : State) : (rts s).x = s.x := by
  simp [rts]
@[simp] theorem rts_y (s : State) : (rts s).y = s.y := by
  simp [rts]
@[simp] theorem rts_p (s : State) : (rts s).p = s.p := by
  simp [rts]
@[simp] theorem rts_pendingBranchCycle (s : State) : (rts s).pendingBranchCycle = s.pendingBranchCycle := by
  simp [rts]
@[simp] theorem rts_pendingOopsCycle (s : State) : (rts s).pendingOopsCycle = s.pendingOopsCycle := by
  simp [rts]
@[simp] theorem rts_pendingNMI (s : State) : (rts s).pendingNMI = s.pendingNMI := by
  simp [rts]
@[simp] theorem rts_pendingIRQ (s : State) : (rts s).pendingIRQ = s.pendingIRQ := by
  simp [rts]
@[simp] theorem rts_dmaCycles (s : State) : (rts s).dmaCycles = s.dmaCycles := by
  simp [rts]
@[simp] theorem rts_cycleCount (s : State) : (rts s).cycleCount = s.cycleCount := by
  simp [rts]
@[simp] theorem rts_mem (s : State) : (rts s).mem = s.mem := by
  simp [rts]
@[simp] theorem rts_stepCycles (s : State) : (rts s).stepCycles = s.stepCycles := by
  simp [rts]
@[simp] theorem rts_params (s : State) : (rts s).params = s.params := by
  simp [rts]

@[simp] theorem rti_a (s : State) : (rti s).a = s.a := by
  simp [rti]
@[simp] theorem rti_x (s : State) : (rti s).x = s.x := by
  simp [rti]
@[simp] theorem rti_y (s : State) : (rti s).y = s.y := by
  simp [rti]
@[simp] theorem rti_pendingBranchCycle (s : State) : (rti s).pendingBranchCycle = s.pendingBranchCycle := by
  simp [rti]
@[simp] theorem rti_pendingOopsCycle (s : State) : (rti s).pendingOopsCycle = s.pendingOopsCycle := by
  simp [rti]
@[simp] theorem rti_pendingNMI (s : State) : (rti s).pendingNMI = s.pendingNMI := by
  simp [rti]
@[simp] theorem rti_pendingIRQ (s : State) : (rti s).pendingIRQ = s.pendingIRQ := by
  simp [rti]
@[simp] theorem rti_dmaCycles (s : State) : (rti s).dmaCycles = s.dmaCycles := by
  simp [rti]
@[simp] theorem rti_cycleCount (s : State) : (rti s).cycleCount = s.cycleCount := by
  simp [rti]
@[simp] theorem rti_mem (s : State) : (rti s).mem = s.mem := by
  simp [rti]
@[simp] theorem rti_stepCycles (s : State) : (rti s).stepCycles = s.stepCycles := by
  simp [rti]
@[simp] theorem rti_params (s : State) : (rti s).params = s.params := by
  simp [rti]

@[simp] theorem addWithCarry_x (m : Byte) (s : State) : (addWithCarry m s).x = s.x := by
  simp [addWithCarry]
@[simp] theorem addWithCarry_y (m : Byte) (s : State) : (addWithCarry m s).y = s.y := by
  simp [addWithCarry]
@[simp] theorem addWithCarry_sp (m : Byte) (s : State) : (addWithCarry m s).sp = s.sp := by
  simp [addWithCarry]
@[simp] theorem addWithCarry_pc (m : Byte) (s : State) : (addWithCarry m s).pc = s.pc := by
  simp [addWithCarry]
@[simp] theorem addWithCarry_pendingBranchCycle (m : Byte) (s : State) : (addWithCarry m s).pendingBranchCycle = s.pendingBranchCycle := by
  simp [addWithCarry]
@[simp] theorem addWithCarry_pendingOopsCycle (m : Byte) (s : State) : (addWithCarry m s).pendingOopsCycle = s.pendingOopsCycle := by
  simp [addWithCarry]
@[simp] theorem addWithCarry_pendingNMI (m : Byte) (s : State) : (addWithCarry m s).pendingNMI = s.pendingNMI := by
  simp [addWithCarry]
@[simp] theorem addWithCarry_pendingIRQ (m : Byte) (s : State) : (addWithCarry m s).pendingIRQ = s.pendingIRQ := by
  simp [addWithCarry]
@[simp] theorem addWithCarry_dmaCycles (m : Byte) (s : State) : (addWithCarry m s).dmaCycles = s.dmaCycles := by
  simp [addWithCarry]
@[simp] theorem addWithCarry_cycleCount (m : Byte) (s : State) : (addWithCarry m s).cycleCount = s.cycleCount := by
  simp [addWithCarry]
@[simp] theorem addWithCarry_mem (m : Byte) (s : State) : (addWithCarry m s).mem = s.mem := by
  simp [addWithCarry]
@[simp] theorem addWithCarry_bus (m : Byte) (s : State) : (addWithCarry m s).bus = s.bus := by
  simp [addWithCarry]
@[simp] theorem addWithCarry_stepCycles (m : Byte) (s : State) : (addWithCarry m s).stepCycles = s.stepCycles := by
  simp [addWithCarry]
@[simp] theorem addWithCarry_busLog (m : Byte) (s : State) : (addWithCarry m s).busLog = s.busLog := by
  simp [addWithCarry]
@[simp] theorem addWithCarry_params (m : Byte) (s : State) : (addWithCarry m s).params = s.params := by
  simp [addWithCarry]

@[simp] theorem adc_x (op : Operand) (s : State) : (adc op s).x = s.x := by
  simp [adc]
@[simp] theorem adc_y (op : Operand) (s : State) : (adc op s).y = s.y := by
  simp [adc]
@[simp] theorem adc_sp (op : Operand) (s : State) : (adc op s).sp = s.sp := by
  simp [adc]
@[simp] theorem adc_pendingBranchCycle (op : Operand) (s : State) : (adc op s).pendingBranchCycle = s.pendingBranchCycle := by
  simp [adc]
@[simp] theorem adc_pendingNMI (op : Operand) (s : State) : (adc op s).pendingNMI = s.pendingNMI := by
  simp [adc]
@[simp] theorem adc_pendingIRQ (op : Operand) (s : State) : (adc op s).pendingIRQ = s.pendingIRQ := by
  simp [adc]
@[simp] theorem adc_dmaCycles (op : Operand) (s : State) : (adc op s).dmaCycles = s.dmaCycles := by
  simp [adc]
@[simp] theorem adc_cycleCount (op : Operand) (s : State) : (adc op s).cycleCount = s.cycleCount := by
  simp [adc]
@[simp] theorem adc_mem (op : Operand) (s : State) : (adc op s).mem = s.mem := by
  simp [adc]
@[simp] theorem adc_stepCycles (op : Operand) (s : State) : (adc op s).stepCycles = s.stepCycles := by
  simp [adc]
@[simp] theorem adc_params (op : Operand) (s : State) : (adc op s).params = s.params := by
  simp [adc]

@[simp] theorem sbc_x (op : Operand) (s : State) : (sbc op s).x = s.x := by
  simp [sbc]
@[simp] theorem sbc_y (op : Operand) (s : State) : (sbc op s).y = s.y := by
  simp [sbc]
@[simp] theorem sbc_sp (op : Operand) (s : State) : (sbc op s).sp = s.sp := by
  simp [sbc]
@[simp] theorem sbc_pendingBranchCycle (op : Operand) (s : State) : (sbc op s).pendingBranchCycle = s.pendingBranchCycle := by
  simp [sbc]
@[simp] theorem sbc_pendingNMI (op : Operand) (s : State) : (sbc op s).pendingNMI = s.pendingNMI := by
  simp [sbc]
@[simp] theorem sbc_pendingIRQ (op : Operand) (s : State) : (sbc op s).pendingIRQ = s.pendingIRQ := by
  simp [sbc]
@[simp] theorem sbc_dmaCycles (op : Operand) (s : State) : (sbc op s).dmaCycles = s.dmaCycles := by
  simp [sbc]
@[simp] theorem sbc_cycleCount (op : Operand) (s : State) : (sbc op s).cycleCount = s.cycleCount := by
  simp [sbc]
@[simp] theorem sbc_mem (op : Operand) (s : State) : (sbc op s).mem = s.mem := by
  simp [sbc]
@[simp] theorem sbc_stepCycles (op : Operand) (s : State) : (sbc op s).stepCycles = s.stepCycles := by
  simp [sbc]
@[simp] theorem sbc_params (op : Operand) (s : State) : (sbc op s).params = s.params := by
  simp [sbc]

@[simp] theorem ldx_a (op : Operand) (s : State) : (ldx op s).a = s.a := by
  simp [ldx]
@[simp] theorem ldx_y (op : Operand) (s : State) : (ldx op s).y = s.y := by
  simp [ldx]
@[simp] theorem ldx_sp (op : Operand) (s : State) : (ldx op s).sp = s.sp := by
  simp [ldx]
@[simp] theorem ldx_pendingBranchCycle (op : Operand) (s : State) : (ldx op s).pendingBranchCycle = s.pendingBranchCycle := by
  simp [ldx]
@[simp] theorem ldx_pendingNMI (op : Operand) (s : State) : (ldx op s).pendingNMI = s.pendingNMI := by
  simp [ldx]
@[simp] theorem ldx_pendingIRQ (op : Operand) (s : State) : (ldx op s).pendingIRQ = s.pendingIRQ := by
  simp [ldx]
@[simp] theorem ldx_dmaCycles (op : Operand) (s : State) : (ldx op s).dmaCycles = s.dmaCycles := by
  simp [ldx]
@[simp] theorem ldx_cycleCount (op : Operand) (s : State) : (ldx op s).cycleCount = s.cycleCount := by
  simp [ldx]
@[simp] theorem ldx_mem (op : Operand) (s : State) : (ldx op s).mem = s.mem := by
  simp [ldx]
@[simp] theorem ldx_stepCycles (op : Operand) (s : State) : (ldx op s).stepCycles = s.stepCycles := by
  simp [ldx]
@[simp] theorem ldx_params (op : Operand) (s : State) : (ldx op s).params = s.params := by
  simp [ldx]

@[simp] theorem ldy_a (op : Operand) (s : State) : (ldy op s).a = s.a := by
  simp [ldy]
@[simp] theorem ldy_x (op : Operand) (s : State) : (ldy op s).x = s.x := by
  simp [ldy]
@[simp] theorem ldy_sp (op : Operand) (s : State) : (ldy op s).sp = s.sp := by
  simp [ldy]
@[simp] theorem ldy_pendingBranchCycle (op : Operand) (s : State) : (ldy op s).pendingBranchCycle = s.pendingBranchCycle := by
  simp [ldy]
@[simp] theorem ldy_pendingNMI (op : Operand) (s : State) : (ldy op s).pendingNMI = s.pendingNMI := by
  simp [ldy]
@[simp] theorem ldy_pendingIRQ (op : Operand) (s : State) : (ldy op s).pendingIRQ = s.pendingIRQ := by
  simp [ldy]
@[simp] theorem ldy_dmaCycles (op : Operand) (s : State) : (ldy op s).dmaCycles = s.dmaCycles := by
  simp [ldy]
@[simp] theorem ldy_cycleCount (op : Operand) (s : State) : (ldy op s).cycleCount = s.cycleCount := by
  simp [ldy]
@[simp] theorem ldy_mem (op : Operand) (s : State) : (ldy op s).mem = s.mem := by
  simp [ldy]
@[simp] theorem ldy_stepCycles (op : Operand) (s : State) : (ldy op s).stepCycles = s.stepCycles := by
  simp [ldy]
@[simp] theorem ldy_params (op : Operand) (s : State) : (ldy op s).params = s.params := by
  simp [ldy]

@[simp] theorem sta_x (op : Operand) (s : State) : (sta op s).x = s.x := by
  simp [sta]
@[simp] theorem sta_y (op : Operand) (s : State) : (sta op s).y = s.y := by
  simp [sta]
@[simp] theorem sta_sp (op : Operand) (s : State) : (sta op s).sp = s.sp := by
  simp [sta]
@[simp] theorem sta_p (op : Operand) (s : State) : (sta op s).p = s.p := by
  simp [sta]
@[simp] theorem sta_pendingBranchCycle (op : Operand) (s : State) : (sta op s).pendingBranchCycle = s.pendingBranchCycle := by
  simp [sta]
@[simp] theorem sta_pendingNMI (op : Operand) (s : State) : (sta op s).pendingNMI = s.pendingNMI := by
  simp [sta]
@[simp] theorem sta_pendingIRQ (op : Operand) (s : State) : (sta op s).pendingIRQ = s.pendingIRQ := by
  simp [sta]
@[simp] theorem sta_dmaCycles (op : Operand) (s : State) : (sta op s).dmaCycles = s.dmaCycles := by
  simp [sta]
@[simp] theorem sta_cycleCount (op : Operand) (s : State) : (sta op s).cycleCount = s.cycleCount := by
  simp [sta]
@[simp] theorem sta_stepCycles (op : Operand) (s : State) : (sta op s).stepCycles = s.stepCycles := by
  simp [sta]
@[simp] theorem sta_params (op : Operand) (s : State) : (sta op s).params = s.params := by
  simp [sta]

@[simp] theorem stx_x (op : Operand) (s : State) : (stx op s).x = s.x := by
  simp [stx]
@[simp] theorem stx_y (op : Operand) (s : State) : (stx op s).y = s.y := by
  simp [stx]
@[simp] theorem stx_sp (op : Operand) (s : State) : (stx op s).sp = s.sp := by
  simp [stx]
@[simp] theorem stx_p (op : Operand) (s : State) : (stx op s).p = s.p := by
  simp [stx]
@[simp] theorem stx_pendingBranchCycle (op : Operand) (s : State) : (stx op s).pendingBranchCycle = s.pendingBranchCycle := by
  simp [stx]
@[simp] theorem stx_pendingNMI (op : Operand) (s : State) : (stx op s).pendingNMI = s.pendingNMI := by
  simp [stx]
@[simp] theorem stx_pendingIRQ (op : Operand) (s : State) : (stx op s).pendingIRQ = s.pendingIRQ := by
  simp [stx]
@[simp] theorem stx_dmaCycles (op : Operand) (s : State) : (stx op s).dmaCycles = s.dmaCycles := by
  simp [stx]
@[simp] theorem stx_cycleCount (op : Operand) (s : State) : (stx op s).cycleCount = s.cycleCount := by
  simp [stx]
@[simp] theorem stx_stepCycles (op : Operand) (s : State) : (stx op s).stepCycles = s.stepCycles := by
  simp [stx]
@[simp] theorem stx_params (op : Operand) (s : State) : (stx op s).params = s.params := by
  simp [stx]

@[simp] theorem sty_x (op : Operand) (s : State) : (sty op s).x = s.x := by
  simp [sty]
@[simp] theorem sty_y (op : Operand) (s : State) : (sty op s).y = s.y := by
  simp [sty]
@[simp] theorem sty_sp (op : Operand) (s : State) : (sty op s).sp = s.sp := by
  simp [sty]
@[simp] theorem sty_p (op : Operand) (s : State) : (sty op s).p = s.p := by
  simp [sty]
@[simp] theorem sty_pendingBranchCycle (op : Operand) (s : State) : (sty op s).pendingBranchCycle = s.pendingBranchCycle := by
  simp [sty]
@[simp] theorem sty_pendingNMI (op : Operand) (s : State) : (sty op s).pendingNMI = s.pendingNMI := by
  simp [sty]
@[simp] theorem sty_pendingIRQ (op : Operand) (s : State) : (sty op s).pendingIRQ = s.pendingIRQ := by
  simp [sty]
@[simp] theorem sty_dmaCycles (op : Operand) (s : State) : (sty op s).dmaCycles = s.dmaCycles := by
  simp [sty]
@[simp] theorem sty_cycleCount (op : Operand) (s : State) : (sty op s).cycleCount = s.cycleCount := by
  simp [sty]
@[simp] theorem sty_stepCycles (op : Operand) (s : State) : (sty op s).stepCycles = s.stepCycles := by
  simp [sty]
@[simp] theorem sty_params (op : Operand) (s : State) : (sty op s).params = s.params := by
  simp [sty]

@[simp] theorem putX_a (v : Byte) (s : State) : (putX v s).a = s.a := by
  simp [putX]
@[simp] theorem putX_y (v : Byte) (s : State) : (putX v s).y = s.y := by
  simp [putX]
@[simp] theorem putX_sp (v : Byte) (s : State) : (putX v s).sp = s.sp := by
  simp [putX]
@[simp] theorem putX_pendingBranchCycle (v : Byte) (s : State) : (putX v s).pendingBranchCycle = s.pendingBranchCycle := by
  simp [putX]
@[simp] theorem putX_pendingOopsCycle (v : Byte) (s : State) : (putX v s).pendingOopsCycle = s.pendingOopsCycle := by
  simp [putX]
@[simp] theorem putX_pendingNMI (v : Byte) (s : State) : (putX v s).pendingNMI = s.pendingNMI := by
  simp [putX]
@[simp] theorem putX_pendingIRQ (v : Byte) (s : State) : (putX v s).pendingIRQ = s.pendingIRQ := by
  simp [putX]
@[simp] theorem putX_dmaCycles (v : Byte) (s : State) : (putX v s).dmaCycles = s.dmaCycles := by
  simp [putX]
@[simp] theorem putX_cycleCount (v : Byte) (s : State) : (putX v s).cycleCount = s.cycleCount := by
  simp [putX]
@[simp] theorem putX_mem (v : Byte) (s : State) : (putX v s).mem = s.mem := by
  simp [putX]
@[simp] theorem putX_bus (v : Byte) (s : State) : (putX v s).bus = s.bus := by
  simp [putX]
@[simp] theorem putX_stepCycles (v : Byte) (s : State) : (putX v s).stepCycles = s.stepCycles := by
  simp [putX]
@[simp] theorem putX_busLog (v : Byte) (s : State) : (putX v s).busLog = s.busLog := by
  simp [putX]
@[simp] theorem putX_params (v : Byte) (s : State) : (putX v s).params = s.params := by
  simp [putX]

@[simp] theorem putY_a (v : Byte) (s : State) : (putY v s).a = s.a := by
  simp [putY]
@[simp] theorem putY_x (v : Byte) (s : State) : (putY v s).x = s.x := by
  simp [putY]
@[simp] theorem putY_sp (v : Byte) (s : State) : (putY v s).sp = s.sp := by
  simp [putY]
@[simp] theorem putY_pendingBranchCycle (v : Byte) (s : State) : (putY v s).pendingBranchCycle = s.pendingBranchCycle := by
  simp [putY]
@[simp] theorem putY_pendingOopsCycle (v : Byte) (s : State) : (putY v s).pendingOopsCycle = s.pendingOopsCycle := by
  simp [putY]
@[simp] theorem putY_pendingNMI (v : Byte) (s : State) : (putY v s).pendingNMI = s.pendingNMI := by
  simp [putY]
@[simp] theorem putY_pendingIRQ (v : Byte) (s : State) : (putY v s).pendingIRQ = s.pendingIRQ := by
  simp [putY]
@[simp] theorem putY_dmaCycles (v : Byte) (s : State) : (putY v s).dmaCycles = s.dmaCycles := by
  simp [putY]
@[simp] theorem putY_cycleCount (v : Byte) (s : State) : (putY v s).cycleCount = s.cycleCount := by
  simp [putY]
@[simp] theorem putY_mem (v : Byte) (s : State) : (putY v s).mem = s.mem := by
  simp [putY]
@[simp] theorem putY_bus (v : Byte) (s : State) : (putY v s).bus = s.bus := by
  simp [putY]
@[simp] theorem putY_stepCycles (v : Byte) (s : State) : (putY v s).stepCycles = s.stepCycles := by
  simp [putY]
@[simp] theorem putY_busLog (v : Byte) (s : State) : (putY v s).busLog = s.busLog := by
  simp [putY]
@[simp] theorem putY_params (v : Byte) (s : State) : (putY v s).params = s.params := by
  simp [putY]

@[simp] theorem putA_x (v : Byte) (s : State) : (putA v s).x = s.x := by
  simp [putA]
@[simp] theorem putA_y (v : Byte) (s : State) : (putA v s).y = s.y := by
  simp [putA]
@[simp] theorem putA_sp (v : Byte) (s : State) : (putA v s).sp = s.sp := by
  simp [putA]
@[simp] theorem putA_pendingBranchCycle (v : Byte) (s : State) : (putA v s).pendingBranchCycle = s.pendingBranchCycle := by
  simp [putA]
@[simp] theorem putA_pendingOopsCycle (v : Byte) (s : State) : (putA v s).pendingOopsCycle = s.pendingOopsCycle := by
  simp [putA]
@[simp] theorem putA_pendingNMI (v : Byte) (s : State) : (putA v s).pendingNMI = s.pendingNMI := by
  simp [putA]
@[simp] theorem putA_pendingIRQ (v : Byte) (s : State) : (putA v s).pendingIRQ = s.pendingIRQ := by
  simp [putA]
@[simp] theorem putA_dmaCycles (v : Byte) (s : State) : (putA v s).dmaCycles = s.dmaCycles := by
  simp [putA]
@[simp] theorem putA_cycleCount (v : Byte) (s : State) : (putA v s).cycleCount = s.cycleCount := by
  simp [putA]
@[simp] theorem putA_mem (v : Byte) (s : State) : (putA v s).mem = s.mem := by
  simp [putA]
@[simp] theorem putA_bus (v : Byte) (s : State) : (putA v s).bus = s.bus := by
  simp [putA]
@[simp] theorem putA_stepCycles (v : Byte) (s : State) : (putA v s).stepCycles = s.stepCycles := by
  simp [putA]
@[simp] theorem putA_busLog (v : Byte) (s : State) : (putA v s).busLog = s.busLog := by
  simp [putA]
@[simp] theorem putA_params (v : Byte) (s : State) : (putA v s).params = s.params := by
  simp [putA]

@[simp] theorem txs_a (s : State) : (txs s).a = s.a := by
  simp [txs]
@[simp] theorem txs_x (s : State) : (txs s).x = s.x := by
  simp [txs]
@[simp] theorem txs_y (s : State) : (txs s).y = s.y := by
  simp [txs]
@[simp] theorem txs_p (s : State) : (txs s).p = s.p := by
  simp [txs]
@[simp] theorem txs_pendingBranchCycle (s : State) : (txs s).pendingBranchCycle = s.pendingBranchCycle := by
  simp [txs]
@[simp] theorem txs_pendingOopsCycle (s : State) : (txs s).pendingOopsCycle = s.pendingOopsCycle := by
  simp [txs]
@[simp] theorem txs_pendingNMI (s : State) : (txs s).pendingNMI = s.pendingNMI := by
  simp [txs]
@[simp] theorem txs_pendingIRQ (s : State) : (txs s).pendingIRQ = s.pendingIRQ := by
  simp [txs]
@[simp] theorem txs_dmaCycles (s : State) : (txs s).dmaCycles = s.dmaCycles := by
  simp [txs]
@[simp] theorem txs_cycleCount (s : State) : (txs s).cycleCount = s.cycleCount := by
  simp [txs]
@[simp] theorem txs_mem (s : State) : (txs s).mem = s.mem := by
  simp [txs]
@[simp] theorem txs_bus (s : State) : (txs s).bus = s.bus := by
  simp [txs]
@[simp] theorem txs_stepCycles (s : State) : (txs s).stepCycles = s.stepCycles := by
  simp [txs]
@[simp] theorem txs_busLog (s : State) : (txs s).busLog = s.busLog := by
  simp [txs]
@[simp] theorem txs_params (s : State) : (txs s).params = s.params := by
  simp [txs]

@[simp] theorem pha_a (s : State) : (pha s).a = s.a := by
  simp [pha]
@[simp] theorem pha_x (s : State) : (pha s).x = s.x := by
  simp [pha]
@[simp] theorem pha_y (s : State) : (pha s).y = s.y := by
  simp [pha]
@[simp] theorem pha_p (s : State) : (pha s).p = s.p := by
  simp [pha]
@[simp] theorem pha_pendingBranchCycle (s : State) : (pha s).pendingBranchCycle = s.pendingBranchCycle := by
  simp [pha]
@[simp] theorem pha_pendingOopsCycle (s : State) : (pha s).pendingOopsCycle = s.pendingOopsCycle := by
  simp [pha]
@[simp] theorem pha_pendingNMI (s : State) : (pha s).pendingNMI = s.pendingNMI := by
  simp [pha]
@[simp] theorem pha_pendingIRQ (s : State) : (pha s).pendingIRQ = s.pendingIRQ := by
  simp [pha]
@[simp] theorem pha_dmaCycles (s : State) : (pha s).dmaCycles = s.dmaCycles := by
  simp [pha]
@[simp] theorem pha_cycleCount (s : State) : (pha s).cycleCount = s.cycleCount := by
  simp [pha]
@[simp] theorem pha_stepCycles (s : State) : (pha s).stepCycles = s.stepCycles := by
  simp [pha]
@[simp] theorem pha_params (s : State) : (pha s).params = s.params := by
  simp [pha]

@[simp] theorem php_a (s : State) : (php s).a = s.a := by
  simp [php]
@[simp] theorem php_x (s : State) : (php s).x = s.x := by
  simp [php]
@[simp] theorem php_y (s : State) : (php s).y = s.y := by
  simp [php]
@[simp] theorem php_p (s : State) : (php s).p = s.p := by
  simp [php]
@[simp] theorem php_pendingBranchCycle (s : State) : (php s).pendingBranchCycle = s.pendingBranchCycle := by
  simp [php]
@[simp] theorem php_pendingOopsCycle (s : State) : (php s).pendingOopsCycle = s.pendingOopsCycle := by
  simp [php]
@[simp] theorem php_pendingNMI (s : State) : (php s).pendingNMI = s.pendingNMI := by
  simp [php]
@[simp] theorem php_pendingIRQ (s : State) : (php s).pendingIRQ = s.pendingIRQ := by
  simp [php]
@[simp] theorem php_dmaCycles (s : State) : (php s).dmaCycles = s.dmaCycles := by
  simp [php]
@[simp] theorem php_cycleCount (s : State) : (php s).cycleCount = s.cycleCount := by
  simp [php]
@[simp] theorem php_stepCycles (s : State) : (php s).stepCycles = s.stepCycles := by
  simp [php]
@[simp] theorem php_params (s : State) : (php s).params = s.params := by
  simp [php]

@[simp] theorem pla_x (s : State) : (pla s).x = s.x := by
  simp [pla]
@[simp] theorem pla_y (s : State) : (pla s).y = s.y := by
  simp [pla]
@[simp] theorem pla_pendingBranchCycle (s : State) : (pla s).pendingBranchCycle = s.pendingBranchCycle := by
  simp [pla]
@[simp] theorem pla_pendingOopsCycle (s : State) : (pla s).pendingOopsCycle = s.pendingOopsCycle := by
  simp [pla]
@[simp] theorem pla_pendingNMI (s : State) : (pla s).pendingNMI = s.pendingNMI := by
  simp [pla]
@[simp] theorem pla_pendingIRQ (s : State) : (pla s).pendingIRQ = s.pendingIRQ := by
  simp [pla]
@[simp] theorem pla_dmaCycles (s : State) : (pla s).dmaCycles = s.dmaCycles := by
  simp [pla]
@[simp] theorem pla_cycleCount (s : State) : (pla s).cycleCount = s.cycleCount := by
  simp [pla]
@[simp] theorem pla_mem (s : State) : (pla s).mem = s.mem := by
  simp [pla]
@[simp] theorem pla_stepCycles (s : State) : (pla s).stepCycles = s.stepCycles := by
  simp [pla]
@[simp] theorem pla_params (s : State) : (pla s).params = s.params := by
  simp [pla]

@[simp] theorem plp_a (s : State) : (plp s).a = s.a := by
  simp [plp]
@[simp] theorem plp_x (s : State) : (plp s).x = s.x := by
  simp [plp]
@[simp] theorem plp_y (s : State) : (plp s).y = s.y := by
  simp [plp]
@[simp] theorem plp_pendingBranchCycle (s : State) : (plp s).pendingBranchCycle = s.pendingBranchCycle := by
  simp [plp]
@[simp] theorem plp_pendingOopsCycle (s : State) : (plp s).pendingOopsCycle = s.pendingOopsCycle := by
  simp [plp]
@[simp] theorem plp_pendingNMI (s : State) : (plp s).pendingNMI = s.pendingNMI := by
  simp [plp]
@[simp] theorem plp_pendingIRQ (s : State) : (plp s).pendingIRQ = s.pendingIRQ := by
  simp [plp]
@[simp] theorem plp_dmaCycles (s : State) : (plp s).dmaCycles = s.dmaCycles := by
  simp [plp]
@[simp] theorem plp_cycleCount (s : State) : (plp s).cycleCount = s.cycleCount := by
  simp [plp]
@[simp] theorem plp_mem (s : State) : (plp s).mem = s.mem := by
  simp [plp]
@[simp] theorem plp_stepCycles (s : State) : (plp s).stepCycles = s.stepCycles := by
  simp [plp]
@[simp] theorem plp_params (s : State) : (plp s).params = s.params := by
  simp [plp]

@[simp] theorem brk_a (s : State) : (brk s).a = s.a := by
  simp [brk]
@[simp] theorem brk_x (s : State) : (brk s).x = s.x := by
  simp [brk]
@[simp] theorem brk_y (s : State) : (brk s).y = s.y := by
  simp [brk]
@[simp] theorem brk_pendingBranchCycle (s : State) : (brk s).pendingBranchCycle = s.pendingBranchCycle := by
  simp [brk]
@[simp] theorem brk_pendingOopsCycle (s : State) : (brk s).pendingOopsCycle = s.pendingOopsCycle := by
  simp [brk]
@[simp] theorem brk_pendingNMI (s : State) : (brk s).pendingNMI = s.pendingNMI := by
  simp [brk]
@[simp] theorem brk_pendingIRQ (s : State) : (brk s).pendingIRQ = s.pendingIRQ := by
  simp [brk]
@[simp] theorem brk_dmaCycles (s : State) : (brk s).dmaCycles = s.dmaCycles := by
  simp [brk]
@[simp] theorem brk_cycleCount (s : State) : (brk s).cycleCount = s.cycleCount := by
  simp [brk]
@[simp] theorem brk_stepCycles (s : State) : (brk s).stepCycles = s.stepCycles := by
  simp [brk]
@[simp] theorem brk_params (s : State) : (brk s).params = s.params := by
  simp [brk]

@[simp] theorem nop_a (s : State) : (nop s).a = s.a := by
  simp [nop]
@[simp] theorem nop_x (s : State) : (nop s).x = s.x := by
  simp [nop]
@[simp] theorem nop_y (s : State) : (nop s).y = s.y := by
  simp [nop]
@[simp] theorem nop_sp (s : State) : (nop s).sp = s.sp := by
  simp [nop]
@[simp] theorem nop_p (s : State) : (nop s).p = s.p := by
  simp [nop]
@[simp] theorem nop_pendingBranchCycle (s : State) : (nop s).pendingBranchCycle = s.pendingBranchCycle := by
  simp [nop]
@[simp] theorem nop_pendingOopsCycle (s : State) : (nop s).pendingOopsCycle = s.pendingOopsCycle := by
  simp [nop]
@[simp] theorem nop_pendingNMI (s : State) : (nop s).pendingNMI = s.pendingNMI := by
  simp [nop]
@[simp] theorem nop_pendingIRQ (s : State) : (nop s).pendingIRQ = s.pendingIRQ := by
  simp [nop]
@[simp] theorem nop_dmaCycles (s : State) : (nop s).dmaCycles = s.dmaCycles := by
  simp [nop]
@[simp] theorem nop_cycleCount (s : State) : (nop s).cycleCount = s.cycleCount := by
  simp [nop]
@[simp] theorem nop_mem (s : State) : (nop s).mem = s.mem := by
  simp [nop]
@[simp] theorem nop_bus (s : State) : (nop s).bus = s.bus := by
  simp [nop]
@[simp] theorem nop_stepCycles (s : State) : (nop s).stepCycles = s.stepCycles := by
  simp [nop]
@[simp] theorem nop_busLog (s : State) : (nop s).busLog = s.busLog := by
  simp [nop]
@[simp] theorem nop_params (s : State) : (nop s).params = s.params := by
  simp [nop]

@[simp] theorem illegal_a (op : Operand) (s : State) : (illegal op s).a = s.a := by
  simp [illegal]
@[simp] theorem illegal_x (op : Operand) (s : State) : (illegal op s).x = s.x := by
  simp [illegal]
@[simp] theorem illegal_y (op : Operand) (s : State) : (illegal op s).y = s.y := by
  simp [illegal]
@[simp] theorem illegal_sp (op : Operand) (s : State) : (illegal op s).sp = s.sp := by
  simp [illegal]
@[simp] theorem illegal_p (op : Operand) (s : State) : (illegal op s).p = s.p := by
  simp [illegal]
@[simp] theorem illegal_pendingBranchCycle (op : Operand) (s : State) : (illegal op s).pendingBranchCycle = s.pendingBranchCycle := by
  simp [illegal]
@[simp] theorem illegal_pendingNMI (op : Operand) (s : State) : (illegal op s).pendingNMI = s.pendingNMI := by
  simp [illegal]
@[simp] theorem illegal_pendingIRQ (op : Operand) (s : State) : (illegal op s).pendingIRQ = s.pendingIRQ := by
  simp [illegal]
@[simp] theorem illegal_dmaCycles (op : Operand) (s : State) : (illegal op s).dmaCycles = s.dmaCycles := by
  simp [illegal]
@[simp] theorem illegal_cycleCount (op : Operand) (s : State) : (illegal op s).cycleCount = s.cycleCount := by
  simp [illegal]
@[simp] theorem illegal_mem (op : Operand) (s : State) : (illegal op s).mem = s.mem := by
  simp [illegal]
@[simp] theorem illegal_stepCycles (op : Operand) (s : State) : (illegal op s).stepCycles = s.stepCycles := by
  simp [illegal]
@[simp] theorem illegal_params (op : Operand) (s : State) : (illegal op s).params = s.params := by
  simp [illegal]

end Sys2Proof.Machine
end

