-- ==== Sys2Proof/Laws/Operands.lean ====
section
/-! SUPPORT. Every resolver answers the address of its rule and leaves the state of its rule, and so do the operand helpers. -/

namespace Sys2Proof.Machine

open Sys2Proof.Rules

theorem crossed_eq (a b : Word) : crossed a b = (page a != page b) := by
  have h : highByte a = highByte b ↔ page a = page b := by
    rw [← BitVec.toNat_inj, toNat_highByte, toNat_highByte]
    rfl
  rw [Bool.eq_iff_iff, crossed, bne_iff_ne, bne_iff_ne]
  exact not_congr h

theorem sext16_eq (v : Byte) : sext16 v = BitVec.ofInt 16 (signed v) := by
  apply BitVec.eq_of_toInt_eq
  have h := v.isLt
  rw [sext16, BitVec.toInt_signExtend, BitVec.toInt_eq_toNat_cond, BitVec.toInt_ofInt, signed]
  norm_num
  split <;> split <;> first | omega | (simp only [Int.bmod_def]; omega)

theorem pageWrapNext_eq (p : Word) : pageWrapNext p = targetHighAddress p := by
  apply BitVec.eq_of_toNat_eq
  have h := p.isLt
  rw [pageWrapNext, toNat_wordOfBytes, toNat_highByte, BitVec.toNat_add, toNat_lowByte, targetHighAddress]
  split
  · have hm : p.toNat &&& 0xFF00 = p.toNat / 256 * 256 := by
      apply Nat.eq_of_testBit_eq
      intro k
      rw [Nat.testBit_and, show (256 : Nat) = 2 ^ 8 by rfl, ← Nat.shiftRight_eq_div_pow, ← Nat.shiftLeft_eq,
        Nat.testBit_shiftLeft, Nat.testBit_shiftRight]
      by_cases h8 : 8 ≤ k
      · by_cases h16 : k < 16
        · have : Nat.testBit 0xFF00 k = true := by
            have : k = 8 ∨ k = 9 ∨ k = 10 ∨ k = 11 ∨ k = 12 ∨ k = 13 ∨ k = 14 ∨ k = 15 := by omega
            rcases this with h | h | h | h | h | h | h | h <;> subst h <;> rfl
          simp [this, h8]
        · have : p.toNat.testBit k = false :=
            Nat.testBit_lt_two_pow (Nat.lt_of_lt_of_le h (Nat.pow_le_pow_right (by decide) (by omega)))
          simp [this, h8]
      · have : Nat.testBit 0xFF00 k = false := by
          have : k = 0 ∨ k = 1 ∨ k = 2 ∨ k = 3 ∨ k = 4 ∨ k = 5 ∨ k = 6 ∨ k = 7 := by omega
          rcases this with h | h | h | h | h | h | h | h <;> subst h <;> rfl
        simp [this, h8]
    rw [BitVec.toNat_and]
    simp only [BitVec.toNat_ofNat]
    norm_num
    omega
  · rw [BitVec.toNat_add]
    simp only [BitVec.toNat_ofNat]
    omega

theorem add_zext16 (a : Word) (v : Byte) : a + zext16 v = BitVec.ofNat 16 (a.toNat + v.toNat) := by
  apply BitVec.eq_of_toNat_eq
  simp [zext16_eq, BitVec.toNat_add]

theorem zext16_add (a b : Byte) : zext16 (a + b) = BitVec.ofNat 16 ((a.toNat + b.toNat) % 256) := by
  rw [zext16_eq, BitVec.toNat_add]

theorem read16ZP_value (z : Byte) (s : State) : (read16ZP z s).1 = zeroPagePointer 0 z s := by
  rw [read16ZP, readPair_value, wordOfBytes_eq, zext16_eq, zext16_eq, toNat_add_one]
  rfl

theorem read16ZP_state (z : Byte) (s : State) :
    (read16ZP z s).2 =
      { s with
        bus := spent 2 0 s.bus
        busLog := s.busLog ++
          [readEvent 0 (BitVec.ofNat 16 z.toNat) s, readEvent 1 (BitVec.ofNat 16 ((z.toNat + 1) % 256)) s] } := by
  rw [read16ZP, readPair_state, zext16_eq, zext16_eq, toNat_add_one]

theorem read16Bug_value (p : Word) (s : State) : (read16Bug p s).1 = indirectTarget 0 p s := by
  rw [read16Bug, readPair_value, wordOfBytes_eq, pageWrapNext_eq]
  rfl

theorem read16Bug_state (p : Word) (s : State) :
    (read16Bug p s).2 =
      { s with bus := spent 2 0 s.bus
               busLog := s.busLog ++ [readEvent 0 p s, readEvent 1 (targetHighAddress p) s] } := by
  rw [read16Bug, readPair_state, pageWrapNext_eq]

/-! ### The operand reads -/

theorem readOperandByte_eq (v : Byte) (s : State) :
    readOperandByte v s = { s with bus := spent 1 0 s.bus, busLog := s.busLog ++ [.read (s.pc + 1#16) v] } := rfl

theorem readOperandWord_eq (w : Word) (s : State) :
    readOperandWord w s = { s with bus := spent 2 0 s.bus, busLog := s.busLog ++ wordReads s.pc w } := by
  simp [readOperandWord, completeRead_eq, wordReads]

/-- The reads of a pointer after `n` other reads. -/
theorem zeroPagePointer_spent (k n : Nat) (z : Byte) {s t : State} (hm : t.mem = s.mem) (hb : t.bus = spent n 0 s.bus) :
    zeroPagePointer k z t = zeroPagePointer (n + k) z s := by
  simp [zeroPagePointer, answer_eq, hm, hb, Nat.add_assoc]

/-- Every resolver answers what its rule says (R120 to R134). -/
theorem resolve_place (op : Operand) (s : State) : (resolve op s).1 = place op s := by
  cases op with
  | implicit => rfl
  | accumulator => rfl
  | immediate imm => rfl
  | relative rel =>
    simp [resolve, atAddress, resolveRelative, place, address, branchTarget, sext16_eq, advance, readOperandByte_eq]
  | absolute addr => rfl
  | zeroPage zp => simp [resolve, atAddress, resolveZeroPage, place, address, zext16_eq]
  | indirect ptr =>
    simp [resolve, atAddress, resolveIndirect, place, address, read16Bug_value, advance, readOperandWord_eq, indirectTarget,
      answer_eq, State.setPC]
  | absoluteX base => simp [resolve, atAddress, resolveAbsoluteIndexed, place, address, add_zext16]
  | absoluteY base => simp [resolve, atAddress, resolveAbsoluteIndexed, place, address, add_zext16]
  | zeroPageX zp => simp [resolve, atAddress, resolveZeroPageIndexed, place, address, zext16_add]
  | zeroPageY zp => simp [resolve, atAddress, resolveZeroPageIndexed, place, address, zext16_add]
  | indexedIndirectX zp =>
    simp [resolve, atAddress, resolveIndexedIndirectX, place, address, read16ZP_value, advance, readOperandByte_eq,
      zeroPagePointer, answer_eq, State.setPC]
  | indirectIndexedY zp =>
    simp [resolve, atAddress, resolveIndirectIndexedY, place, address, read16ZP_value, advance, readOperandByte_eq, add_zext16,
      zeroPagePointer, answer_eq, State.setPC]

/-- Every resolver leaves the state its rule says (R120 to R134). -/
theorem resolve_state (op : Operand) (s : State) : (resolve op s).2 = resolved op s := by
  cases op with
  | implicit => simp [resolve, resolveImplicit, resolved, crosses, resolverReads, size, advance, State.setPC, readCount]
  | accumulator => simp [resolve, resolveAccumulator, resolved, crosses, resolverReads, size, advance, State.setPC, readCount]
  | immediate imm => simp [resolve, resolveImmediate, resolved, crosses, resolverReads, size, advance, State.setPC, readCount]
  | relative rel =>
    simp [resolve, atAddress, resolveRelative, resolved, crosses, resolverReads, size, advance, readOperandByte_eq, markCross,
      crossed_eq, branchTarget, sext16_eq, State.setPC, State.setOops, readCount]
  | absolute addr =>
    simp [resolve, atAddress, resolveAbsolute, resolved, crosses, resolverReads, size, advance, readOperandWord_eq,
      State.setPC, readCount]
  | zeroPage zp =>
    simp [resolve, atAddress, resolveZeroPage, resolved, crosses, resolverReads, size, advance, readOperandByte_eq, State.setPC,
      readCount]
  | indirect ptr =>
    simp [resolve, atAddress, resolveIndirect, resolved, crosses, resolverReads, size, advance, readOperandWord_eq,
      read16Bug_state, State.setPC, readCount, readEvent, answer_eq]
  | absoluteX base =>
    simp [resolve, atAddress, resolveAbsoluteIndexed, resolved, crosses, resolverReads, size, advance, readOperandWord_eq,
      markCross, crossed_eq, add_zext16, State.setPC, State.setOops, readCount]
  | absoluteY base =>
    simp [resolve, atAddress, resolveAbsoluteIndexed, resolved, crosses, resolverReads, size, advance, readOperandWord_eq,
      markCross, crossed_eq, add_zext16, State.setPC, State.setOops, readCount]
  | zeroPageX zp =>
    simp [resolve, atAddress, resolveZeroPageIndexed, resolved, crosses, resolverReads, size, advance, readOperandByte_eq,
      State.setPC, readCount]
  | zeroPageY zp =>
    simp [resolve, atAddress, resolveZeroPageIndexed, resolved, crosses, resolverReads, size, advance, readOperandByte_eq,
      State.setPC, readCount]
  | indexedIndirectX zp =>
    simp [resolve, atAddress, resolveIndexedIndirectX, resolved, crosses, resolverReads, size, advance, readOperandByte_eq,
      read16ZP_state, State.setPC, readCount, pointerReads, readEvent, answer_eq]
  | indirectIndexedY zp =>
    simp [resolve, atAddress, resolveIndirectIndexedY, resolved, crosses, resolverReads, size, advance, readOperandByte_eq,
      read16ZP_value, read16ZP_state, markCross, crossed_eq, add_zext16, State.setPC, State.setOops, readCount, pointerReads,
      readEvent, zeroPagePointer, answer_eq]

/-- The value a handler reads (R135). -/
theorem loadOperand_value (op : Operand) (s : State) : (loadOperand op s).1 = operandByte op s := by
  rw [loadOperand, resolve_place, resolve_state]
  cases op <;> simp [place, address, readOperand, operandByte, resolved, readCount, answer_eq]

/-- The state after the resolver and the one read of the operand (R73, R135). -/
theorem loadOperand_state (op : Operand) (s : State) : (loadOperand op s).2 = afterRead op s := by
  rw [loadOperand, resolve_place, resolve_state]
  cases op <;> simp [place, address, readOperand, afterRead, operandReads, operandByte, resolved, memRead_state, completeRead_eq,
    readEvent, readCount, answer_eq]

/-- The write of a handler: the accumulator where there is no address, one bus write at the rule's address otherwise (R136). -/
theorem writeOperand_place (op : Operand) (v : Byte) (s t : State) :
    writeOperand (place op s) v t =
      match address op s with
      | none => { t with a := v }
      | some ea =>
        { t with mem := storeByte (ignoredAt t.bus 0) t.mem ea v, bus := spent 0 1 t.bus, busLog := t.busLog ++ [.write ea v] } := by
  cases op <;> rfl

/-! ### What a resolver's answer depends on: X, Y, the program counter and the bus, and for the accumulator A -/

theorem answer_congr (k : Nat) (a : Word) {s t : State} (hb : s.bus = t.bus) (hm : s.mem = t.mem) :
    answer k a s = answer k a t := by
  simp only [answer_eq, hb, hm]

theorem address_congr (op : Operand) {s t : State} (hx : s.x = t.x) (hy : s.y = t.y) (hp : s.pc = t.pc) (hb : s.bus = t.bus)
    (hm : s.mem = t.mem) : address op s = address op t := by
  cases op <;> simp only [address, branchTarget, indirectTarget, zeroPagePointer, answer_eq, hx, hy, hp, hb, hm]

theorem crosses_congr (op : Operand) {s t : State} (hx : s.x = t.x) (hy : s.y = t.y) (hp : s.pc = t.pc) (hb : s.bus = t.bus)
    (hm : s.mem = t.mem) : crosses op s = crosses op t := by
  cases op <;> simp only [crosses, branchTarget, zeroPagePointer, answer_eq, hx, hy, hp, hb, hm]

theorem resolverReads_congr (op : Operand) {s t : State} (hx : s.x = t.x) (hp : s.pc = t.pc) (hb : s.bus = t.bus)
    (hm : s.mem = t.mem) : resolverReads op s = resolverReads op t := by
  cases op <;> simp only [resolverReads, pointerReads, readEvent, answer_eq, hx, hp, hb, hm]

theorem operandByte_congr (op : Operand) {s t : State} (ha : s.a = t.a) (hx : s.x = t.x) (hy : s.y = t.y) (hp : s.pc = t.pc)
    (hb : s.bus = t.bus) (hm : s.mem = t.mem) : operandByte op s = operandByte op t := by
  simp only [operandByte, address_congr op hx hy hp hb hm, ha, answer_eq, hb, hm]

theorem operandReads_congr (op : Operand) {s t : State} (ha : s.a = t.a) (hx : s.x = t.x) (hy : s.y = t.y) (hp : s.pc = t.pc)
    (hb : s.bus = t.bus) (hm : s.mem = t.mem) : operandReads op s = operandReads op t := by
  simp only [operandReads, address_congr op hx hy hp hb hm, operandByte_congr op ha hx hy hp hb hm]

end Sys2Proof.Machine
end

