-- ==== Sys2Proof/Laws/Exec.lean ====
section
/-! SUPPORT. `exec` as one function of the mnemonic and the operand, so that a proof about a mnemonic is one proof for all its
rows, and what every handler keeps. -/

namespace Sys2Proof.Machine

open Sys2Proof.Rules

/-- A branch on an operand: only Relative occurs. -/
def branchTo (cond : Bool) (op : Operand) (s : State) : State :=
  match op with
  | .relative rel => branch cond rel s
  | _ => s

/-- JMP on an operand: only Absolute and Indirect occur. -/
def jumpOperand (op : Operand) (s : State) : State :=
  match op with
  | .absolute addr => jumpTo (resolveAbsolute addr s)
  | .indirect ptr => jumpTo (resolveIndirect ptr s)
  | _ => s

/-- JSR on an operand: only Absolute occurs. -/
def jsrOperand (op : Operand) (s : State) : State :=
  match op with
  | .absolute addr => jsr addr s
  | _ => s

/-- The handler of each mnemonic (R94). -/
def handle (m : Mnemonic) (op : Operand) (s : State) : State :=
  match m with
  | .and => andA op s
  | .ora => oraA op s
  | .eor => eorA op s
  | .asl => asl op s
  | .lsr => lsr op s
  | .rol => rol op s
  | .ror => ror op s
  | .bpl => branchTo (!s.p.n) op s
  | .bmi => branchTo s.p.n op s
  | .bvc => branchTo (!s.p.v) op s
  | .bvs => branchTo s.p.v op s
  | .bcc => branchTo (!s.p.c) op s
  | .bcs => branchTo s.p.c op s
  | .bne => branchTo (!s.p.z) op s
  | .beq => branchTo s.p.z op s
  | .cmp => cmp op s
  | .cpx => cpx op s
  | .cpy => cpy op s
  | .bit => bitTest op s
  | .clc => changeFlags (fun p => { p with c := false }) s
  | .cld => changeFlags (fun p => { p with d := false }) s
  | .cli => changeFlags (fun p => { p with i := false }) s
  | .clv => changeFlags (fun p => { p with v := false }) s
  | .sec => changeFlags (fun p => { p with c := true }) s
  | .sed => changeFlags (fun p => { p with d := true }) s
  | .sei => changeFlags (fun p => { p with i := true }) s
  | .jmp => jumpOperand op s
  | .jsr => jsrOperand op s
  | .rts => rts s
  | .rti => rti s
  | .adc => adc op s
  | .sbc => sbc op s
  | .lda => lda op s
  | .ldx => ldx op s
  | .ldy => ldy op s
  | .sta => sta op s
  | .stx => stx op s
  | .sty => sty op s
  | .inc => inc op s
  | .dec => dec op s
  | .inx => putX (s.x + 1#8) s
  | .iny => putY (s.y + 1#8) s
  | .dex => putX (s.x - 1#8) s
  | .dey => putY (s.y - 1#8) s
  | .tax => putX s.a s
  | .tay => putY s.a s
  | .txa => putA s.x s
  | .tya => putA s.y s
  | .tsx => putX s.sp s
  | .txs => txs s
  | .pha => pha s
  | .php => php s
  | .pla => pla s
  | .plp => plp s
  | .brk => brk s
  | .nop => nop s
  | .illSlo => illegal op s
  | .illRla => illegal op s
  | .illSre => illegal op s
  | .illRra => illegal op s
  | .illSax => illegal op s
  | .illLax => illegal op s
  | .illLxa => illegal op s
  | .illDcp => illegal op s
  | .illIsc => illegal op s
  | .illAnc => illegal op s
  | .illAlr => illegal op s
  | .illArr => illegal op s
  | .illAne => illegal op s
  | .illSbx => illegal op s
  | .illUsbc => illegal op s
  | .illSha => illegal op s
  | .illShx => illegal op s
  | .illShy => illegal op s
  | .illTas => illegal op s
  | .illLas => illegal op s
  | .illNop => illegal op s
  | .illKil => illegal op s

/-- Every arm of `exec` is the handler of its row's mnemonic bound to its row's operand (R293). -/
theorem exec_eq_handle (i : Instr) (s : State) : exec i s = .next (handle i.mnemonic i.operand s) := by
  cases i <;> rfl

/-! ### Which operands the rows of a mnemonic have -/

/-- A store, and a read-modify-write, has an operand with an address, or the Accumulator for a shift. -/
theorem addressWriters_mode (i : Instr) (h : i.mnemonic ∈ addressWriters) :
    operandMode i.operand ≠ .implicit ∧ operandMode i.operand ≠ .immediate ∧
      (operandMode i.operand = .accumulator → i.mnemonic ∈ shifts) := by
  revert h
  cases i <;> simp [Instr.mnemonic, Instr.operand, operandMode, addressWriters, shifts]

/-- A branch has a Relative operand. -/
theorem condition_mode (i : Instr) {p : Flags} (h : condition i.mnemonic p ≠ none) : operandMode i.operand = .relative := by
  revert h
  cases i <;> simp [Instr.mnemonic, Instr.operand, operandMode, condition]

/-! ### The closed form of each shared operation -/

theorem resolveImplicit_eq (s : State) : resolveImplicit s = { s with pc := s.pc + 1#16 } := rfl

theorem storeOperand_eq (op : Operand) (v : Byte) (s : State) :
    storeOperand op v s =
      match address op s with
      | none => { resolved op s with a := v }
      | some ea =>
        { resolved op s with
          mem := storeByte (ignoredAt s.bus 0) s.mem ea v
          bus := spent (readCount op) 1 s.bus
          busLog := (resolved op s).busLog ++ [.write ea v] } := by
  rw [storeOperand, resolve_place, resolve_state, writeOperand_place]
  cases address op s <;> simp [resolved]

/-- An operand with an address is read by one bus read. -/
theorem operandReads_some {op : Operand} {s : State} {ea : Word} (h : address op s = some ea) :
    operandReads op s = [.read ea (operandByte op s)] := by
  simp [operandReads, h]

theorem modifyOperand_eq (f : State → Byte → Byte) (g : State → Byte → Flags) (op : Operand) (s : State) :
    modifyOperand f g op s =
      match address op s with
      | none => { afterRead op s with a := f (afterRead op s) (operandByte op s), p := g (afterRead op s) (operandByte op s) }
      | some ea =>
        { afterRead op s with
          mem := storeByte (ignoredAt s.bus 0) s.mem ea (f (afterRead op s) (operandByte op s))
          p := g (afterRead op s) (operandByte op s)
          bus := spent (readCount op + 1) 1 s.bus
          busLog := (afterRead op s).busLog ++ [.write ea (f (afterRead op s) (operandByte op s))] } := by
  rw [modifyOperand, loadOperand_value, loadOperand_state, resolve_place, writeOperand_place]
  cases h : address op s <;> simp [afterRead, resolved, State.setP, operandReads, h]

/-- The resolver answers an address exactly when the rule gives one and the operand is not Immediate. -/
theorem address_of_resolve {op : Operand} {s : State} {ea : Word} (h : (resolve op s).1 = .memory ea) :
    address op s = some ea ∧ operandByte op s = answer (readCount op) ea s := by
  rw [resolve_place] at h
  cases op <;> simp_all [place, address, operandByte]

/-- A store to an address: the byte written is the only change of memory (R136). -/
theorem storeOperand_memory {op : Operand} {s : State} {ea : Word} (v : Byte) (h : (resolve op s).1 = .memory ea) :
    storeOperand op v s =
      { resolved op s with
        mem := storeByte (ignoredAt s.bus 0) s.mem ea v
        bus := spent (readCount op) 1 s.bus
        busLog := (resolved op s).busLog ++ [.write ea v] } := by
  rw [storeOperand_eq, (address_of_resolve h).1]

/-- A read-modify-write of an address (R73). -/
theorem modifyOperand_memory (f : State → Byte → Byte) (g : State → Byte → Flags) {op : Operand} {s : State} {ea : Word}
    (h : (resolve op s).1 = .memory ea) :
    modifyOperand f g op s =
      { afterRead op s with
        mem := storeByte (ignoredAt s.bus 0) s.mem ea (f (afterRead op s) (answer (readCount op) ea s))
        p := g (afterRead op s) (answer (readCount op) ea s)
        bus := spent (readCount op + 1) 1 s.bus
        busLog := (afterRead op s).busLog ++ [.write ea (f (afterRead op s) (answer (readCount op) ea s))] } := by
  rw [modifyOperand_eq, (address_of_resolve h).1, (address_of_resolve h).2]

/-- One bus write changes one byte at most (R62, R75). -/
theorem storedAt_storeByte (s : State) (a : Word) (v : Byte) :
    StoredAt s a v (storeByte (ignoredAt s.bus 0) s.mem a v) :=
  ⟨by rw [storeByte_same, kept_eq], fun _ hb => storeByte_other _ _ _ hb⟩

theorem combineA_eq (f : Byte → Byte → Byte) (op : Operand) (s : State) :
    combineA f op s =
      { afterRead op s with a := f s.a (operandByte op s), p := withZN (f s.a (operandByte op s)) s.p } := by
  simp [combineA, loadOperand_value, loadOperand_state, setZN_eq, State.setA, State.setP, afterRead, resolved]

theorem compareWith_eq (r : Byte) (op : Operand) (s : State) :
    compareWith r op s = { afterRead op s with p := compareFlags r (operandByte op s) s.p } := by
  simp [compareWith, loadOperand_value, loadOperand_state, State.setP, afterRead, resolved]

theorem resolveRelative_eq (rel : Byte) (s : State) :
    resolveRelative rel s = (branchTarget rel s, resolved (.relative rel) s) := by
  have h := resolve_place (.relative rel) s
  have h2 := resolve_state (.relative rel) s
  simp only [resolve, atAddress, place, address, Place.memory.injEq] at h h2
  exact Prod.ext h h2

theorem branch_eq (cond : Bool) (rel : Byte) (s : State) :
    branch cond rel s =
      if cond then { resolved (.relative rel) s with pc := branchTarget rel s, pendingBranchCycle := true }
      else resolved (.relative rel) s := by
  rw [branch, resolveRelative_eq]
  rfl

/-! ### What every handler keeps -/

@[simp] theorem handle_pendingNMI (m : Mnemonic) (op : Operand) (s : State) : (handle m op s).pendingNMI = s.pendingNMI := by
  cases m
  case jmp => cases op <;> simp [handle, jumpOperand, jumpTo]
  case jsr => cases op <;> simp [handle, jsrOperand]
  case bpl | bmi | bvc | bvs | bcc | bcs | bne | beq => cases op <;> simp [handle, branchTo]
  all_goals simp [handle]

@[simp] theorem handle_pendingIRQ (m : Mnemonic) (op : Operand) (s : State) : (handle m op s).pendingIRQ = s.pendingIRQ := by
  cases m
  case jmp => cases op <;> simp [handle, jumpOperand, jumpTo]
  case jsr => cases op <;> simp [handle, jsrOperand]
  case bpl | bmi | bvc | bvs | bcc | bcs | bne | beq => cases op <;> simp [handle, branchTo]
  all_goals simp [handle]

@[simp] theorem handle_dmaCycles (m : Mnemonic) (op : Operand) (s : State) : (handle m op s).dmaCycles = s.dmaCycles := by
  cases m
  case jmp => cases op <;> simp [handle, jumpOperand, jumpTo]
  case jsr => cases op <;> simp [handle, jsrOperand]
  case bpl | bmi | bvc | bvs | bcc | bcs | bne | beq => cases op <;> simp [handle, branchTo]
  all_goals simp [handle]

@[simp] theorem handle_cycleCount (m : Mnemonic) (op : Operand) (s : State) : (handle m op s).cycleCount = s.cycleCount := by
  cases m
  case jmp => cases op <;> simp [handle, jumpOperand, jumpTo]
  case jsr => cases op <;> simp [handle, jsrOperand]
  case bpl | bmi | bvc | bvs | bcc | bcs | bne | beq => cases op <;> simp [handle, branchTo]
  all_goals simp [handle]

@[simp] theorem handle_stepCycles (m : Mnemonic) (op : Operand) (s : State) : (handle m op s).stepCycles = s.stepCycles := by
  cases m
  case jmp => cases op <;> simp [handle, jumpOperand, jumpTo]
  case jsr => cases op <;> simp [handle, jsrOperand]
  case bpl | bmi | bvc | bvs | bcc | bcs | bne | beq => cases op <;> simp [handle, branchTo]
  all_goals simp [handle]

@[simp] theorem handle_params (m : Mnemonic) (op : Operand) (s : State) : (handle m op s).params = s.params := by
  cases m
  case jmp => cases op <;> simp [handle, jumpOperand, jumpTo]
  case jsr => cases op <;> simp [handle, jsrOperand]
  case bpl | bmi | bvc | bvs | bcc | bcs | bne | beq => cases op <;> simp [handle, branchTo]
  all_goals simp [handle]

/-! ### Memory stays canonical, and the stored Break and Unused flags stay as R38 has them -/

theorem writeOperand_wf (pl : Place) (v : Byte) {s : State} (h : s.mem.wf = true) : (writeOperand pl v s).mem.wf = true := by
  cases pl
  case noAddress => exact h
  all_goals exact storeByte_wf _ _ _ h

theorem storeOperand_wf (op : Operand) (v : Byte) {s : State} (h : s.mem.wf = true) : (storeOperand op v s).mem.wf = true :=
  writeOperand_wf _ _ (by simpa using h)

theorem modifyOperand_wf (f : State → Byte → Byte) (g : State → Byte → Flags) (op : Operand) {s : State}
    (h : s.mem.wf = true) : (modifyOperand f g op s).mem.wf = true :=
  writeOperand_wf _ _ (by simpa using h)

theorem push_wf (v : Byte) {s : State} (h : s.mem.wf = true) : (push v s).mem.wf = true := storeByte_wf _ _ _ h

theorem pushWord_wf (w : Word) {s : State} (h : s.mem.wf = true) : (pushWord w s).mem.wf = true := push_wf _ (push_wf _ h)

theorem takeInterrupt_wf (v : Word) (brk : Bool) {s : State} (h : s.mem.wf = true) : (takeInterrupt v brk s).mem.wf = true := by
  simp only [takeInterrupt, State.setPC_mem, read16_mem, State.setP_mem]
  exact push_wf _ (pushWord_wf _ h)

/-- Every handler keeps the canonical form of memory. -/
theorem handle_wf (m : Mnemonic) (op : Operand) {s : State} (h : s.mem.wf = true) : (handle m op s).mem.wf = true := by
  cases m
  case jmp => cases op <;> simpa [handle, jumpOperand, jumpTo] using h
  case jsr =>
    cases op
    case absolute addr =>
      simp only [handle, jsrOperand, jsr, State.setPC_mem]
      exact pushWord_wf _ (by simpa using h)
    all_goals exact h
  case bpl | bmi | bvc | bvs | bcc | bcs | bne | beq => cases op <;> simp [handle, branchTo, h]
  case asl | lsr | rol | ror =>
    simp only [handle, asl, lsr, rol, ror, shiftOperand]
    exact modifyOperand_wf _ _ _ h
  case inc | dec =>
    simp only [handle, inc, dec]
    exact modifyOperand_wf _ _ _ h
  case sta | stx | sty =>
    simp only [handle, sta, stx, sty]
    exact storeOperand_wf _ _ h
  case pha | php =>
    simp only [handle, pha, php]
    exact push_wf _ (by simpa using h)
  case brk =>
    simp only [handle, brk, State.setP_mem]
    exact takeInterrupt_wf _ _ (by simpa using h)
  all_goals simpa [handle] using h

@[simp] theorem modifyOperand_p (f : State → Byte → Byte) (g : State → Byte → Flags) (op : Operand) (s : State) :
    (modifyOperand f g op s).p = g (loadOperand op s).2 (loadOperand op s).1 := rfl

/-- Every handler leaves Break clear if it was clear (R32, R38). -/
theorem handle_b (m : Mnemonic) (op : Operand) {s : State} (h : s.p.b = false) : (handle m op s).p.b = false := by
  cases m
  case jmp => cases op <;> simpa [handle, jumpOperand, jumpTo] using h
  case jsr => cases op <;> simpa [handle, jsrOperand] using h
  case bpl | bmi | bvc | bvs | bcc | bcs | bne | beq => cases op <;> simpa [handle, branchTo] using h
  case rti | plp | brk => rfl
  all_goals simpa [handle, andA, oraA, eorA, combineA, asl, lsr, rol, ror, shiftOperand, compareWith, cmp, cpx, cpy, bitTest,
    changeFlags, adc, sbc, addWithCarry, lda, ldx, ldy, inc, dec, putX, putY, putA, pla, brk] using h

/-- Every handler leaves Unused set if it was set (R33, R38). -/
theorem handle_u (m : Mnemonic) (op : Operand) {s : State} (h : s.p.u = true) : (handle m op s).p.u = true := by
  cases m
  case jmp => cases op <;> simpa [handle, jumpOperand, jumpTo] using h
  case jsr => cases op <;> simpa [handle, jsrOperand] using h
  case bpl | bmi | bvc | bvs | bcc | bcs | bne | beq => cases op <;> simpa [handle, branchTo] using h
  case rti | plp => rfl
  all_goals simpa [handle, andA, oraA, eorA, combineA, asl, lsr, rol, ror, shiftOperand, compareWith, cmp, cpx, cpy, bitTest,
    changeFlags, adc, sbc, addWithCarry, lda, ldx, ldy, inc, dec, putX, putY, putA, pla, brk, takeInterrupt] using h

end Sys2Proof.Machine
end

