-- ==== Sys2Proof/Laws/Engine.lean ====
section
/-! SUPPORT. The phases of a step around Execute: one equation for each phase, and what the phases can do. -/

namespace Sys2Proof.Machine

open Sys2Proof.Rules

theorem prepareStep_eq (s : State) :
    prepareStep s =
      { s with stepCycles := s.dmaCycles, dmaCycles := 0, bus := spent 1 0 s.bus, busLog := [.read s.pc (opcodeAt s)] } := rfl

/-- The opcode byte is the bus's answer to the first read (R61, R292). -/
theorem opcodeAt_eq (s : State) : opcodeAt s = answer 0 s.pc s := peek_eq ..

/-- The instruction is decoded from the bus's answers to the first reads (R61, R77, R292). -/
theorem fetchInstr_eq (s : State) :
    fetchInstr s = decodeBytes (answer 0 s.pc s) (answer 1 (s.pc + 1#16) s) (answer 2 (s.pc + 2#16) s) := by
  rw [fetchInstr, opcodeAt, peek_eq, peek_eq, peek_eq]

theorem account_eq (op : Byte) (s : State) :
    account op s =
      { s with
        stepCycles := s.stepCycles + baseCyclesOf s.params op + oopsCharge op s + branchCharge s
        pendingOopsCycle := false
        pendingBranchCycle := false } := rfl

theorem enterInterrupt_eq (v : Word) (s : State) :
    enterInterrupt v s = { takeInterrupt v false s with stepCycles := s.stepCycles + 7 } := by
  simp [enterInterrupt, State.setStepCycles]

/-- What the InterruptCheck can do (R326): enter NMI, enter IRQ, or nothing. -/
theorem interruptCheck_cases (s : State) :
    (s.pendingNMI = true ∧
        interruptCheck s = { takeInterrupt nmiVector false s with stepCycles := s.stepCycles + 7, pendingNMI := false }) ∨
      (s.pendingNMI = false ∧ s.pendingIRQ = true ∧ s.p.i = false ∧
        interruptCheck s = { takeInterrupt irqVector false s with stepCycles := s.stepCycles + 7, pendingIRQ := false }) ∨
      (s.pendingNMI = false ∧ (s.pendingIRQ = false ∨ s.p.i = true) ∧ interruptCheck s = s) := by
  unfold interruptCheck
  by_cases hn : s.pendingNMI = true
  · left
    simp [hn, enterInterrupt_eq, State.setNMI]
  · right
    by_cases hi : s.pendingIRQ = true ∧ s.p.i = false
    · left
      simp [hn, hi.1, hi.2, enterInterrupt_eq, State.setIRQ]
    · right
      have h : (s.pendingIRQ && !s.p.i) = false := by
        cases hq : s.pendingIRQ <;> cases hp : s.p.i <;> simp_all
      refine ⟨by simpa using hn, ?_, by simp [hn, h]⟩
      cases hq : s.pendingIRQ <;> cases hp : s.p.i <;> simp_all

theorem countCycles_eq (s : State) : countCycles s = { s with cycleCount := s.cycleCount + s.stepCycles } := rfl

/-- A step is the handler of the fetched instruction between the phases around it (R290). -/
theorem step_def (s : State) :
    step s = match exec (fetchInstr s) (prepareStep s) with
      | .next t => .next (finishStep (opcodeAt s) t)
      | .fault r => .fault r
      | .refused r => .refused r := rfl

/-! ### What the interrupt check and the end of a step keep -/

@[simp] theorem interruptCheck_a (s : State) : (interruptCheck s).a = s.a := by
  rcases interruptCheck_cases s with ⟨_, h⟩ | ⟨_, _, _, h⟩ | ⟨_, _, h⟩ <;> simp only [h, takeInterrupt_eq]

@[simp] theorem interruptCheck_x (s : State) : (interruptCheck s).x = s.x := by
  rcases interruptCheck_cases s with ⟨_, h⟩ | ⟨_, _, _, h⟩ | ⟨_, _, h⟩ <;> simp only [h, takeInterrupt_eq]

@[simp] theorem interruptCheck_y (s : State) : (interruptCheck s).y = s.y := by
  rcases interruptCheck_cases s with ⟨_, h⟩ | ⟨_, _, _, h⟩ | ⟨_, _, h⟩ <;> simp only [h, takeInterrupt_eq]

@[simp] theorem interruptCheck_dmaCycles (s : State) : (interruptCheck s).dmaCycles = s.dmaCycles := by
  rcases interruptCheck_cases s with ⟨_, h⟩ | ⟨_, _, _, h⟩ | ⟨_, _, h⟩ <;> simp only [h, takeInterrupt_eq]

@[simp] theorem interruptCheck_cycleCount (s : State) : (interruptCheck s).cycleCount = s.cycleCount := by
  rcases interruptCheck_cases s with ⟨_, h⟩ | ⟨_, _, _, h⟩ | ⟨_, _, h⟩ <;> simp only [h, takeInterrupt_eq]

@[simp] theorem interruptCheck_params (s : State) : (interruptCheck s).params = s.params := by
  rcases interruptCheck_cases s with ⟨_, h⟩ | ⟨_, _, _, h⟩ | ⟨_, _, h⟩ <;> simp only [h, takeInterrupt_eq]

@[simp] theorem interruptCheck_pendingBranchCycle (s : State) : (interruptCheck s).pendingBranchCycle = s.pendingBranchCycle := by
  rcases interruptCheck_cases s with ⟨_, h⟩ | ⟨_, _, _, h⟩ | ⟨_, _, h⟩ <;> simp only [h, takeInterrupt_eq]

@[simp] theorem interruptCheck_pendingOopsCycle (s : State) : (interruptCheck s).pendingOopsCycle = s.pendingOopsCycle := by
  rcases interruptCheck_cases s with ⟨_, h⟩ | ⟨_, _, _, h⟩ | ⟨_, _, h⟩ <;> simp only [h, takeInterrupt_eq]

@[simp] theorem interruptCheck_p_c (s : State) : (interruptCheck s).p.c = s.p.c := by
  rcases interruptCheck_cases s with ⟨_, h⟩ | ⟨_, _, _, h⟩ | ⟨_, _, h⟩ <;> simp only [h, takeInterrupt_eq]

@[simp] theorem interruptCheck_p_z (s : State) : (interruptCheck s).p.z = s.p.z := by
  rcases interruptCheck_cases s with ⟨_, h⟩ | ⟨_, _, _, h⟩ | ⟨_, _, h⟩ <;> simp only [h, takeInterrupt_eq]

@[simp] theorem interruptCheck_p_d (s : State) : (interruptCheck s).p.d = s.p.d := by
  rcases interruptCheck_cases s with ⟨_, h⟩ | ⟨_, _, _, h⟩ | ⟨_, _, h⟩ <;> simp only [h, takeInterrupt_eq]

@[simp] theorem interruptCheck_p_b (s : State) : (interruptCheck s).p.b = s.p.b := by
  rcases interruptCheck_cases s with ⟨_, h⟩ | ⟨_, _, _, h⟩ | ⟨_, _, h⟩ <;> simp only [h, takeInterrupt_eq]

@[simp] theorem interruptCheck_p_u (s : State) : (interruptCheck s).p.u = s.p.u := by
  rcases interruptCheck_cases s with ⟨_, h⟩ | ⟨_, _, _, h⟩ | ⟨_, _, h⟩ <;> simp only [h, takeInterrupt_eq]

@[simp] theorem interruptCheck_p_v (s : State) : (interruptCheck s).p.v = s.p.v := by
  rcases interruptCheck_cases s with ⟨_, h⟩ | ⟨_, _, _, h⟩ | ⟨_, _, h⟩ <;> simp only [h, takeInterrupt_eq]

@[simp] theorem interruptCheck_p_n (s : State) : (interruptCheck s).p.n = s.p.n := by
  rcases interruptCheck_cases s with ⟨_, h⟩ | ⟨_, _, _, h⟩ | ⟨_, _, h⟩ <;> simp only [h, takeInterrupt_eq]

theorem interruptCheck_wf {s : State} (hw : s.mem.wf = true) : (interruptCheck s).mem.wf = true := by
  rcases interruptCheck_cases s with ⟨_, h⟩ | ⟨_, _, _, h⟩ | ⟨_, _, h⟩ <;> simp only [h, hw]
  all_goals exact takeInterrupt_wf _ _ hw

@[simp] theorem finishStep_a (op : Byte) (s : State) : (finishStep op s).a = s.a := by
  rw [finishStep, countCycles_eq]
  simp only [interruptCheck_a, account_eq]

@[simp] theorem finishStep_x (op : Byte) (s : State) : (finishStep op s).x = s.x := by
  rw [finishStep, countCycles_eq]
  simp only [interruptCheck_x, account_eq]

@[simp] theorem finishStep_y (op : Byte) (s : State) : (finishStep op s).y = s.y := by
  rw [finishStep, countCycles_eq]
  simp only [interruptCheck_y, account_eq]

@[simp] theorem finishStep_dmaCycles (op : Byte) (s : State) : (finishStep op s).dmaCycles = s.dmaCycles := by
  rw [finishStep, countCycles_eq]
  simp only [interruptCheck_dmaCycles, account_eq]

@[simp] theorem finishStep_params (op : Byte) (s : State) : (finishStep op s).params = s.params := by
  rw [finishStep, countCycles_eq]
  simp only [interruptCheck_params, account_eq]

@[simp] theorem finishStep_p_c (op : Byte) (s : State) : (finishStep op s).p.c = s.p.c := by
  rw [finishStep, countCycles_eq]
  simp only [interruptCheck_p_c, account_eq]

@[simp] theorem finishStep_p_z (op : Byte) (s : State) : (finishStep op s).p.z = s.p.z := by
  rw [finishStep, countCycles_eq]
  simp only [interruptCheck_p_z, account_eq]

@[simp] theorem finishStep_p_d (op : Byte) (s : State) : (finishStep op s).p.d = s.p.d := by
  rw [finishStep, countCycles_eq]
  simp only [interruptCheck_p_d, account_eq]

@[simp] theorem finishStep_p_b (op : Byte) (s : State) : (finishStep op s).p.b = s.p.b := by
  rw [finishStep, countCycles_eq]
  simp only [interruptCheck_p_b, account_eq]

@[simp] theorem finishStep_p_u (op : Byte) (s : State) : (finishStep op s).p.u = s.p.u := by
  rw [finishStep, countCycles_eq]
  simp only [interruptCheck_p_u, account_eq]

@[simp] theorem finishStep_p_v (op : Byte) (s : State) : (finishStep op s).p.v = s.p.v := by
  rw [finishStep, countCycles_eq]
  simp only [interruptCheck_p_v, account_eq]

@[simp] theorem finishStep_p_n (op : Byte) (s : State) : (finishStep op s).p.n = s.p.n := by
  rw [finishStep, countCycles_eq]
  simp only [interruptCheck_p_n, account_eq]

@[simp] theorem finishStep_pendingBranchCycle (op : Byte) (s : State) : (finishStep op s).pendingBranchCycle = false := by
  rw [finishStep, countCycles_eq]
  simp only [interruptCheck_pendingBranchCycle, account_eq]

@[simp] theorem finishStep_pendingOopsCycle (op : Byte) (s : State) : (finishStep op s).pendingOopsCycle = false := by
  rw [finishStep, countCycles_eq]
  simp only [interruptCheck_pendingOopsCycle, account_eq]

theorem finishStep_wf (op : Byte) {s : State} (hw : s.mem.wf = true) : (finishStep op s).mem.wf = true :=
  interruptCheck_wf (s := account op s) hw

/-- A step runs the handler of the fetched instruction, and always completes (R290, R293, R302). -/
theorem step_eq (s : State) :
    step s = .next (finishStep (opcodeAt s) (handle (fetchInstr s).mnemonic (fetchInstr s).operand (prepareStep s))) := by
  rw [step_def, exec_eq_handle]

end Sys2Proof.Machine
end

