-- ==== Sys2Proof/Laws/PerInstr.lean ====
section
/-! SUPPORT. The statement families over the constructors of `Instr`, one lemma per constructor. -/

/-- An instruction agrees with the dispatch row of its opcode byte (R94, R103). -/
def Sys2Proof.Laws.WellFormed.Statement (i : Sys2Proof.Instr) : Prop := i.wellFormed = true

theorem Sys2Proof.Laws.WellFormed.brk (pad : Sys2Proof.Byte) : Sys2Proof.Laws.WellFormed.Statement (.brk pad) :=
  Sys2Proof.wellFormed_of_row rfl Sys2Proof.tableRow_00 rfl rfl rfl
theorem Sys2Proof.Laws.WellFormed.oraIzx (zp : Sys2Proof.Byte) : Sys2Proof.Laws.WellFormed.Statement (.oraIzx zp) :=
  Sys2Proof.wellFormed_of_row rfl Sys2Proof.tableRow_01 rfl rfl rfl
theorem Sys2Proof.Laws.WellFormed.illKil02 : Sys2Proof.Laws.WellFormed.Statement .illKil02 :=
  Sys2Proof.wellFormed_of_row rfl Sys2Proof.tableRow_02 rfl rfl rfl
theorem Sys2Proof.Laws.WellFormed.illSlo03 (zp : Sys2Proof.Byte) : Sys2Proof.Laws.WellFormed.Statement (.illSlo03 zp) :=
  Sys2Proof.wellFormed_of_row rfl Sys2Proof.tableRow_03 rfl rfl rfl
theorem Sys2Proof.Laws.WellFormed.illNop04 (zp : Sys2Proof.Byte) : Sys2Proof.Laws.WellFormed.Statement (.illNop04 zp) :=
  Sys2Proof.wellFormed_of_row rfl Sys2Proof.tableRow_04 rfl rfl rfl
theorem Sys2Proof.Laws.WellFormed.oraZp (zp : Sys2Proof.Byte) : Sys2Proof.Laws.WellFormed.Statement (.oraZp zp) :=
  Sys2Proof.wellFormed_of_row rfl Sys2Proof.tableRow_05 rfl rfl rfl
theorem Sys2Proof.Laws.WellFormed.aslZp (zp : Sys2Proof.Byte) : Sys2Proof.Laws.WellFormed.Statement (.aslZp zp) :=
  Sys2Proof.wellFormed_of_row rfl Sys2Proof.tableRow_06 rfl rfl rfl
theorem Sys2Proof.Laws.WellFormed.illSlo07 (zp : Sys2Proof.Byte) : Sys2Proof.Laws.WellFormed.Statement (.illSlo07 zp) :=
  Sys2Proof.wellFormed_of_row rfl Sys2Proof.tableRow_07 rfl rfl rfl
theorem Sys2Proof.Laws.WellFormed.php : Sys2Proof.Laws.WellFormed.Statement .php :=
  Sys2Proof.wellFormed_of_row rfl Sys2Proof.tableRow_08 rfl rfl rfl
theorem Sys2Proof.Laws.WellFormed.oraImm (imm : Sys2Proof.Byte) : Sys2Proof.Laws.WellFormed.Statement (.oraImm imm) :=
  Sys2Proof.wellFormed_of_row rfl Sys2Proof.tableRow_09 rfl rfl rfl
theorem Sys2Proof.Laws.WellFormed.aslAcc : Sys2Proof.Laws.WellFormed.Statement .aslAcc :=
  Sys2Proof.wellFormed_of_row rfl Sys2Proof.tableRow_0A rfl rfl rfl
theorem Sys2Proof.Laws.WellFormed.illAnc0B (imm : Sys2Proof.Byte) : Sys2Proof.Laws.WellFormed.Statement (.illAnc0B imm) :=
  Sys2Proof.wellFormed_of_row rfl Sys2Proof.tableRow_0B rfl rfl rfl
theorem Sys2Proof.Laws.WellFormed.illNop0C (addr : Sys2Proof.Word) : Sys2Proof.Laws.WellFormed.Statement (.illNop0C addr) :=
  Sys2Proof.wellFormed_of_row rfl Sys2Proof.tableRow_0C rfl rfl rfl
theorem Sys2Proof.Laws.WellFormed.oraAbs (addr : Sys2Proof.Word) : Sys2Proof.Laws.WellFormed.Statement (.oraAbs addr) :=
  Sys2Proof.wellFormed_of_row rfl Sys2Proof.tableRow_0D rfl rfl rfl
theorem Sys2Proof.Laws.WellFormed.aslAbs (addr : Sys2Proof.Word) : Sys2Proof.Laws.WellFormed.Statement (.aslAbs addr) :=
  Sys2Proof.wellFormed_of_row rfl Sys2Proof.tableRow_0E rfl rfl rfl
theorem Sys2Proof.Laws.WellFormed.illSlo0F (addr : Sys2Proof.Word) : Sys2Proof.Laws.WellFormed.Statement (.illSlo0F addr) :=
  Sys2Proof.wellFormed_of_row rfl Sys2Proof.tableRow_0F rfl rfl rfl
theorem Sys2Proof.Laws.WellFormed.bpl (rel : Sys2Proof.Byte) : Sys2Proof.Laws.WellFormed.Statement (.bpl rel) :=
  Sys2Proof.wellFormed_of_row rfl Sys2Proof.tableRow_10 rfl rfl rfl
theorem Sys2Proof.Laws.WellFormed.oraIzy (zp : Sys2Proof.Byte) : Sys2Proof.Laws.WellFormed.Statement (.oraIzy zp) :=
  Sys2Proof.wellFormed_of_row rfl Sys2Proof.tableRow_11 rfl rfl rfl
theorem Sys2Proof.Laws.WellFormed.illKil12 : Sys2Proof.Laws.WellFormed.Statement .illKil12 :=
  Sys2Proof.wellFormed_of_row rfl Sys2Proof.tableRow_12 rfl rfl rfl
theorem Sys2Proof.Laws.WellFormed.illSlo13 (zp : Sys2Proof.Byte) : Sys2Proof.Laws.WellFormed.Statement (.illSlo13 zp) :=
  Sys2Proof.wellFormed_of_row rfl Sys2Proof.tableRow_13 rfl rfl rfl
theorem Sys2Proof.Laws.WellFormed.illNop14 (zp : Sys2Proof.Byte) : Sys2Proof.Laws.WellFormed.Statement (.illNop14 zp) :=
  Sys2Proof.wellFormed_of_row rfl Sys2Proof.tableRow_14 rfl rfl rfl
theorem Sys2Proof.Laws.WellFormed.oraZpx (zp : Sys2Proof.Byte) : Sys2Proof.Laws.WellFormed.Statement (.oraZpx zp) :=
  Sys2Proof.wellFormed_of_row rfl Sys2Proof.tableRow_15 rfl rfl rfl
theorem Sys2Proof.Laws.WellFormed.aslZpx (zp : Sys2Proof.Byte) : Sys2Proof.Laws.WellFormed.Statement (.aslZpx zp) :=
  Sys2Proof.wellFormed_of_row rfl Sys2Proof.tableRow_16 rfl rfl rfl
theorem Sys2Proof.Laws.WellFormed.illSlo17 (zp : Sys2Proof.Byte) : Sys2Proof.Laws.WellFormed.Statement (.illSlo17 zp) :=
  Sys2Proof.wellFormed_of_row rfl Sys2Proof.tableRow_17 rfl rfl rfl
theorem Sys2Proof.Laws.WellFormed.clc : Sys2Proof.Laws.WellFormed.Statement .clc :=
  Sys2Proof.wellFormed_of_row rfl Sys2Proof.tableRow_18 rfl rfl rfl
theorem Sys2Proof.Laws.WellFormed.oraAby (base : Sys2Proof.Word) : Sys2Proof.Laws.WellFormed.Statement (.oraAby base) :=
  Sys2Proof.wellFormed_of_row rfl Sys2Proof.tableRow_19 rfl rfl rfl
theorem Sys2Proof.Laws.WellFormed.illNop1A : Sys2Proof.Laws.WellFormed.Statement .illNop1A :=
  Sys2Proof.wellFormed_of_row rfl Sys2Proof.tableRow_1A rfl rfl rfl
theorem Sys2Proof.Laws.WellFormed.illSlo1B (base : Sys2Proof.Word) : Sys2Proof.Laws.WellFormed.Statement (.illSlo1B base) :=
  Sys2Proof.wellFormed_of_row rfl Sys2Proof.tableRow_1B rfl rfl rfl
theorem Sys2Proof.Laws.WellFormed.illNop1C (base : Sys2Proof.Word) : Sys2Proof.Laws.WellFormed.Statement (.illNop1C base) :=
  Sys2Proof.wellFormed_of_row rfl Sys2Proof.tableRow_1C rfl rfl rfl
theorem Sys2Proof.Laws.WellFormed.oraAbx (base : Sys2Proof.Word) : Sys2Proof.Laws.WellFormed.Statement (.oraAbx base) :=
  Sys2Proof.wellFormed_of_row rfl Sys2Proof.tableRow_1D rfl rfl rfl
theorem Sys2Proof.Laws.WellFormed.aslAbx (base : Sys2Proof.Word) : Sys2Proof.Laws.WellFormed.Statement (.aslAbx base) :=
  Sys2Proof.wellFormed_of_row rfl Sys2Proof.tableRow_1E rfl rfl rfl
theorem Sys2Proof.Laws.WellFormed.illSlo1F (base : Sys2Proof.Word) : Sys2Proof.Laws.WellFormed.Statement (.illSlo1F base) :=
  Sys2Proof.wellFormed_of_row rfl Sys2Proof.tableRow_1F rfl rfl rfl
theorem Sys2Proof.Laws.WellFormed.jsr (addr : Sys2Proof.Word) : Sys2Proof.Laws.WellFormed.Statement (.jsr addr) :=
  Sys2Proof.wellFormed_of_row rfl Sys2Proof.tableRow_20 rfl rfl rfl
theorem Sys2Proof.Laws.WellFormed.andIzx (zp : Sys2Proof.Byte) : Sys2Proof.Laws.WellFormed.Statement (.andIzx zp) :=
  Sys2Proof.wellFormed_of_row rfl Sys2Proof.tableRow_21 rfl rfl rfl
theorem Sys2Proof.Laws.WellFormed.illKil22 : Sys2Proof.Laws.WellFormed.Statement .illKil22 :=
  Sys2Proof.wellFormed_of_row rfl Sys2Proof.tableRow_22 rfl rfl rfl
theorem Sys2Proof.Laws.WellFormed.illRla23 (zp : Sys2Proof.Byte) : Sys2Proof.Laws.WellFormed.Statement (.illRla23 zp) :=
  Sys2Proof.wellFormed_of_row rfl Sys2Proof.tableRow_23 rfl rfl rfl
theorem Sys2Proof.Laws.WellFormed.bitZp (zp : Sys2Proof.Byte) : Sys2Proof.Laws.WellFormed.Statement (.bitZp zp) :=
  Sys2Proof.wellFormed_of_row rfl Sys2Proof.tableRow_24 rfl rfl rfl
theorem Sys2Proof.Laws.WellFormed.andZp (zp : Sys2Proof.Byte) : Sys2Proof.Laws.WellFormed.Statement (.andZp zp) :=
  Sys2Proof.wellFormed_of_row rfl Sys2Proof.tableRow_25 rfl rfl rfl
theorem Sys2Proof.Laws.WellFormed.rolZp (zp : Sys2Proof.Byte) : Sys2Proof.Laws.WellFormed.Statement (.rolZp zp) :=
  Sys2Proof.wellFormed_of_row rfl Sys2Proof.tableRow_26 rfl rfl rfl
theorem Sys2Proof.Laws.WellFormed.illRla27 (zp : Sys2Proof.Byte) : Sys2Proof.Laws.WellFormed.Statement (.illRla27 zp) :=
  Sys2Proof.wellFormed_of_row rfl Sys2Proof.tableRow_27 rfl rfl rfl
theorem Sys2Proof.Laws.WellFormed.plp : Sys2Proof.Laws.WellFormed.Statement .plp :=
  Sys2Proof.wellFormed_of_row rfl Sys2Proof.tableRow_28 rfl rfl rfl
theorem Sys2Proof.Laws.WellFormed.andImm (imm : Sys2Proof.Byte) : Sys2Proof.Laws.WellFormed.Statement (.andImm imm) :=
  Sys2Proof.wellFormed_of_row rfl Sys2Proof.tableRow_29 rfl rfl rfl
theorem Sys2Proof.Laws.WellFormed.rolAcc : Sys2Proof.Laws.WellFormed.Statement .rolAcc :=
  Sys2Proof.wellFormed_of_row rfl Sys2Proof.tableRow_2A rfl rfl rfl
theorem Sys2Proof.Laws.WellFormed.illAnc2B (imm : Sys2Proof.Byte) : Sys2Proof.Laws.WellFormed.Statement (.illAnc2B imm) :=
  Sys2Proof.wellFormed_of_row rfl Sys2Proof.tableRow_2B rfl rfl rfl
theorem Sys2Proof.Laws.WellFormed.bitAbs (addr : Sys2Proof.Word) : Sys2Proof.Laws.WellFormed.Statement (.bitAbs addr) :=
  Sys2Proof.wellFormed_of_row rfl Sys2Proof.tableRow_2C rfl rfl rfl
theorem Sys2Proof.Laws.WellFormed.andAbs (addr : Sys2Proof.Word) : Sys2Proof.Laws.WellFormed.Statement (.andAbs addr) :=
  Sys2Proof.wellFormed_of_row rfl Sys2Proof.tableRow_2D rfl rfl rfl
theorem Sys2Proof.Laws.WellFormed.rolAbs (addr : Sys2Proof.Word) : Sys2Proof.Laws.WellFormed.Statement (.rolAbs addr) :=
  Sys2Proof.wellFormed_of_row rfl Sys2Proof.tableRow_2E rfl rfl rfl
theorem Sys2Proof.Laws.WellFormed.illRla2F (addr : Sys2Proof.Word) : Sys2Proof.Laws.WellFormed.Statement (.illRla2F addr) :=
  Sys2Proof.wellFormed_of_row rfl Sys2Proof.tableRow_2F rfl rfl rfl
theorem Sys2Proof.Laws.WellFormed.bmi (rel : Sys2Proof.Byte) : Sys2Proof.Laws.WellFormed.Statement (.bmi rel) :=
  Sys2Proof.wellFormed_of_row rfl Sys2Proof.tableRow_30 rfl rfl rfl
theorem Sys2Proof.Laws.WellFormed.andIzy (zp : Sys2Proof.Byte) : Sys2Proof.Laws.WellFormed.Statement (.andIzy zp) :=
  Sys2Proof.wellFormed_of_row rfl Sys2Proof.tableRow_31 rfl rfl rfl
theorem Sys2Proof.Laws.WellFormed.illKil32 : Sys2Proof.Laws.WellFormed.Statement .illKil32 :=
  Sys2Proof.wellFormed_of_row rfl Sys2Proof.tableRow_32 rfl rfl rfl
theorem Sys2Proof.Laws.WellFormed.illRla33 (zp : Sys2Proof.Byte) : Sys2Proof.Laws.WellFormed.Statement (.illRla33 zp) :=
  Sys2Proof.wellFormed_of_row rfl Sys2Proof.tableRow_33 rfl rfl rfl
theorem Sys2Proof.Laws.WellFormed.illNop34 (zp : Sys2Proof.Byte) : Sys2Proof.Laws.WellFormed.Statement (.illNop34 zp) :=
  Sys2Proof.wellFormed_of_row rfl Sys2Proof.tableRow_34 rfl rfl rfl
theorem Sys2Proof.Laws.WellFormed.andZpx (zp : Sys2Proof.Byte) : Sys2Proof.Laws.WellFormed.Statement (.andZpx zp) :=
  Sys2Proof.wellFormed_of_row rfl Sys2Proof.tableRow_35 rfl rfl rfl
theorem Sys2Proof.Laws.WellFormed.rolZpx (zp : Sys2Proof.Byte) : Sys2Proof.Laws.WellFormed.Statement (.rolZpx zp) :=
  Sys2Proof.wellFormed_of_row rfl Sys2Proof.tableRow_36 rfl rfl rfl
theorem Sys2Proof.Laws.WellFormed.illRla37 (zp : Sys2Proof.Byte) : Sys2Proof.Laws.WellFormed.Statement (.illRla37 zp) :=
  Sys2Proof.wellFormed_of_row rfl Sys2Proof.tableRow_37 rfl rfl rfl
theorem Sys2Proof.Laws.WellFormed.sec : Sys2Proof.Laws.WellFormed.Statement .sec :=
  Sys2Proof.wellFormed_of_row rfl Sys2Proof.tableRow_38 rfl rfl rfl
theorem Sys2Proof.Laws.WellFormed.andAby (base : Sys2Proof.Word) : Sys2Proof.Laws.WellFormed.Statement (.andAby base) :=
  Sys2Proof.wellFormed_of_row rfl Sys2Proof.tableRow_39 rfl rfl rfl
theorem Sys2Proof.Laws.WellFormed.illNop3A : Sys2Proof.Laws.WellFormed.Statement .illNop3A :=
  Sys2Proof.wellFormed_of_row rfl Sys2Proof.tableRow_3A rfl rfl rfl
theorem Sys2Proof.Laws.WellFormed.illRla3B (base : Sys2Proof.Word) : Sys2Proof.Laws.WellFormed.Statement (.illRla3B base) :=
  Sys2Proof.wellFormed_of_row rfl Sys2Proof.tableRow_3B rfl rfl rfl
theorem Sys2Proof.Laws.WellFormed.illNop3C (base : Sys2Proof.Word) : Sys2Proof.Laws.WellFormed.Statement (.illNop3C base) :=
  Sys2Proof.wellFormed_of_row rfl Sys2Proof.tableRow_3C rfl rfl rfl
theorem Sys2Proof.Laws.WellFormed.andAbx (base : Sys2Proof.Word) : Sys2Proof.Laws.WellFormed.Statement (.andAbx base) :=
  Sys2Proof.wellFormed_of_row rfl Sys2Proof.tableRow_3D rfl rfl rfl
theorem Sys2Proof.Laws.WellFormed.rolAbx (base : Sys2Proof.Word) : Sys2Proof.Laws.WellFormed.Statement (.rolAbx base) :=
  Sys2Proof.wellFormed_of_row rfl Sys2Proof.tableRow_3E rfl rfl rfl
theorem Sys2Proof.Laws.WellFormed.illRla3F (base : Sys2Proof.Word) : Sys2Proof.Laws.WellFormed.Statement (.illRla3F base) :=
  Sys2Proof.wellFormed_of_row rfl Sys2Proof.tableRow_3F rfl rfl rfl
theorem Sys2Proof.Laws.WellFormed.rti : Sys2Proof.Laws.WellFormed.Statement .rti :=
  Sys2Proof.wellFormed_of_row rfl Sys2Proof.tableRow_40 rfl rfl rfl
theorem Sys2Proof.Laws.WellFormed.eorIzx (zp : Sys2Proof.Byte) : Sys2Proof.Laws.WellFormed.Statement (.eorIzx zp) :=
  Sys2Proof.wellFormed_of_row rfl Sys2Proof.tableRow_41 rfl rfl rfl
theorem Sys2Proof.Laws.WellFormed.illKil42 : Sys2Proof.Laws.WellFormed.Statement .illKil42 :=
  Sys2Proof.wellFormed_of_row rfl Sys2Proof.tableRow_42 rfl rfl rfl
theorem Sys2Proof.Laws.WellFormed.illSre43 (zp : Sys2Proof.Byte) : Sys2Proof.Laws.WellFormed.Statement (.illSre43 zp) :=
  Sys2Proof.wellFormed_of_row rfl Sys2Proof.tableRow_43 rfl rfl rfl
theorem Sys2Proof.Laws.WellFormed.illNop44 (zp : Sys2Proof.Byte) : Sys2Proof.Laws.WellFormed.Statement (.illNop44 zp) :=
  Sys2Proof.wellFormed_of_row rfl Sys2Proof.tableRow_44 rfl rfl rfl
theorem Sys2Proof.Laws.WellFormed.eorZp (zp : Sys2Proof.Byte) : Sys2Proof.Laws.WellFormed.Statement (.eorZp zp) :=
  Sys2Proof.wellFormed_of_row rfl Sys2Proof.tableRow_45 rfl rfl rfl
theorem Sys2Proof.Laws.WellFormed.lsrZp (zp : Sys2Proof.Byte) : Sys2Proof.Laws.WellFormed.Statement (.lsrZp zp) :=
  Sys2Proof.wellFormed_of_row rfl Sys2Proof.tableRow_46 rfl rfl rfl
theorem Sys2Proof.Laws.WellFormed.illSre47 (zp : Sys2Proof.Byte) : Sys2Proof.Laws.WellFormed.Statement (.illSre47 zp) :=
  Sys2Proof.wellFormed_of_row rfl Sys2Proof.tableRow_47 rfl rfl rfl
theorem Sys2Proof.Laws.WellFormed.pha : Sys2Proof.Laws.WellFormed.Statement .pha :=
  Sys2Proof.wellFormed_of_row rfl Sys2Proof.tableRow_48 rfl rfl rfl
theorem Sys2Proof.Laws.WellFormed.eorImm (imm : Sys2Proof.Byte) : Sys2Proof.Laws.WellFormed.Statement (.eorImm imm) :=
  Sys2Proof.wellFormed_of_row rfl Sys2Proof.tableRow_49 rfl rfl rfl
theorem Sys2Proof.Laws.WellFormed.lsrAcc : Sys2Proof.Laws.WellFormed.Statement .lsrAcc :=
  Sys2Proof.wellFormed_of_row rfl Sys2Proof.tableRow_4A rfl rfl rfl
theorem Sys2Proof.Laws.WellFormed.illAlr4B (imm : Sys2Proof.Byte) : Sys2Proof.Laws.WellFormed.Statement (.illAlr4B imm) :=
  Sys2Proof.wellFormed_of_row rfl Sys2Proof.tableRow_4B rfl rfl rfl
theorem Sys2Proof.Laws.WellFormed.jmpAbs (addr : Sys2Proof.Word) : Sys2Proof.Laws.WellFormed.Statement (.jmpAbs addr) :=
  Sys2Proof.wellFormed_of_row rfl Sys2Proof.tableRow_4C rfl rfl rfl
theorem Sys2Proof.Laws.WellFormed.eorAbs (addr : Sys2Proof.Word) : Sys2Proof.Laws.WellFormed.Statement (.eorAbs addr) :=
  Sys2Proof.wellFormed_of_row rfl Sys2Proof.tableRow_4D rfl rfl rfl
theorem Sys2Proof.Laws.WellFormed.lsrAbs (addr : Sys2Proof.Word) : Sys2Proof.Laws.WellFormed.Statement (.lsrAbs addr) :=
  Sys2Proof.wellFormed_of_row rfl Sys2Proof.tableRow_4E rfl rfl rfl
theorem Sys2Proof.Laws.WellFormed.illSre4F (addr : Sys2Proof.Word) : Sys2Proof.Laws.WellFormed.Statement (.illSre4F addr) :=
  Sys2Proof.wellFormed_of_row rfl Sys2Proof.tableRow_4F rfl rfl rfl
theorem Sys2Proof.Laws.WellFormed.bvc (rel : Sys2Proof.Byte) : Sys2Proof.Laws.WellFormed.Statement (.bvc rel) :=
  Sys2Proof.wellFormed_of_row rfl Sys2Proof.tableRow_50 rfl rfl rfl
theorem Sys2Proof.Laws.WellFormed.eorIzy (zp : Sys2Proof.Byte) : Sys2Proof.Laws.WellFormed.Statement (.eorIzy zp) :=
  Sys2Proof.wellFormed_of_row rfl Sys2Proof.tableRow_51 rfl rfl rfl
theorem Sys2Proof.Laws.WellFormed.illKil52 : Sys2Proof.Laws.WellFormed.Statement .illKil52 :=
  Sys2Proof.wellFormed_of_row rfl Sys2Proof.tableRow_52 rfl rfl rfl
theorem Sys2Proof.Laws.WellFormed.illSre53 (zp : Sys2Proof.Byte) : Sys2Proof.Laws.WellFormed.Statement (.illSre53 zp) :=
  Sys2Proof.wellFormed_of_row rfl Sys2Proof.tableRow_53 rfl rfl rfl
theorem Sys2Proof.Laws.WellFormed.illNop54 (zp : Sys2Proof.Byte) : Sys2Proof.Laws.WellFormed.Statement (.illNop54 zp) :=
  Sys2Proof.wellFormed_of_row rfl Sys2Proof.tableRow_54 rfl rfl rfl
theorem Sys2Proof.Laws.WellFormed.eorZpx (zp : Sys2Proof.Byte) : Sys2Proof.Laws.WellFormed.Statement (.eorZpx zp) :=
  Sys2Proof.wellFormed_of_row rfl Sys2Proof.tableRow_55 rfl rfl rfl
theorem Sys2Proof.Laws.WellFormed.lsrZpx (zp : Sys2Proof.Byte) : Sys2Proof.Laws.WellFormed.Statement (.lsrZpx zp) :=
  Sys2Proof.wellFormed_of_row rfl Sys2Proof.tableRow_56 rfl rfl rfl
theorem Sys2Proof.Laws.WellFormed.illSre57 (zp : Sys2Proof.Byte) : Sys2Proof.Laws.WellFormed.Statement (.illSre57 zp) :=
  Sys2Proof.wellFormed_of_row rfl Sys2Proof.tableRow_57 rfl rfl rfl
theorem Sys2Proof.Laws.WellFormed.cli : Sys2Proof.Laws.WellFormed.Statement .cli :=
  Sys2Proof.wellFormed_of_row rfl Sys2Proof.tableRow_58 rfl rfl rfl
theorem Sys2Proof.Laws.WellFormed.eorAby (base : Sys2Proof.Word) : Sys2Proof.Laws.WellFormed.Statement (.eorAby base) :=
  Sys2Proof.wellFormed_of_row rfl Sys2Proof.tableRow_59 rfl rfl rfl
theorem Sys2Proof.Laws.WellFormed.illNop5A : Sys2Proof.Laws.WellFormed.Statement .illNop5A :=
  Sys2Proof.wellFormed_of_row rfl Sys2Proof.tableRow_5A rfl rfl rfl
theorem Sys2Proof.Laws.WellFormed.illSre5B (base : Sys2Proof.Word) : Sys2Proof.Laws.WellFormed.Statement (.illSre5B base) :=
  Sys2Proof.wellFormed_of_row rfl Sys2Proof.tableRow_5B rfl rfl rfl
theorem Sys2Proof.Laws.WellFormed.illNop5C (base : Sys2Proof.Word) : Sys2Proof.Laws.WellFormed.Statement (.illNop5C base) :=
  Sys2Proof.wellFormed_of_row rfl Sys2Proof.tableRow_5C rfl rfl rfl
theorem Sys2Proof.Laws.WellFormed.eorAbx (base : Sys2Proof.Word) : Sys2Proof.Laws.WellFormed.Statement (.eorAbx base) :=
  Sys2Proof.wellFormed_of_row rfl Sys2Proof.tableRow_5D rfl rfl rfl
theorem Sys2Proof.Laws.WellFormed.lsrAbx (base : Sys2Proof.Word) : Sys2Proof.Laws.WellFormed.Statement (.lsrAbx base) :=
  Sys2Proof.wellFormed_of_row rfl Sys2Proof.tableRow_5E rfl rfl rfl
theorem Sys2Proof.Laws.WellFormed.illSre5F (base : Sys2Proof.Word) : Sys2Proof.Laws.WellFormed.Statement (.illSre5F base) :=
  Sys2Proof.wellFormed_of_row rfl Sys2Proof.tableRow_5F rfl rfl rfl
theorem Sys2Proof.Laws.WellFormed.rts : Sys2Proof.Laws.WellFormed.Statement .rts :=
  Sys2Proof.wellFormed_of_row rfl Sys2Proof.tableRow_60 rfl rfl rfl
theorem Sys2Proof.Laws.WellFormed.adcIzx (zp : Sys2Proof.Byte) : Sys2Proof.Laws.WellFormed.Statement (.adcIzx zp) :=
  Sys2Proof.wellFormed_of_row rfl Sys2Proof.tableRow_61 rfl rfl rfl
theorem Sys2Proof.Laws.WellFormed.illKil62 : Sys2Proof.Laws.WellFormed.Statement .illKil62 :=
  Sys2Proof.wellFormed_of_row rfl Sys2Proof.tableRow_62 rfl rfl rfl
theorem Sys2Proof.Laws.WellFormed.illRra63 (zp : Sys2Proof.Byte) : Sys2Proof.Laws.WellFormed.Statement (.illRra63 zp) :=
  Sys2Proof.wellFormed_of_row rfl Sys2Proof.tableRow_63 rfl rfl rfl
theorem Sys2Proof.Laws.WellFormed.illNop64 (zp : Sys2Proof.Byte) : Sys2Proof.Laws.WellFormed.Statement (.illNop64 zp) :=
  Sys2Proof.wellFormed_of_row rfl Sys2Proof.tableRow_64 rfl rfl rfl
theorem Sys2Proof.Laws.WellFormed.adcZp (zp : Sys2Proof.Byte) : Sys2Proof.Laws.WellFormed.Statement (.adcZp zp) :=
  Sys2Proof.wellFormed_of_row rfl Sys2Proof.tableRow_65 rfl rfl rfl
theorem Sys2Proof.Laws.WellFormed.rorZp (zp : Sys2Proof.Byte) : Sys2Proof.Laws.WellFormed.Statement (.rorZp zp) :=
  Sys2Proof.wellFormed_of_row rfl Sys2Proof.tableRow_66 rfl rfl rfl
theorem Sys2Proof.Laws.WellFormed.illRra67 (zp : Sys2Proof.Byte) : Sys2Proof.Laws.WellFormed.Statement (.illRra67 zp) :=
  Sys2Proof.wellFormed_of_row rfl Sys2Proof.tableRow_67 rfl rfl rfl
theorem Sys2Proof.Laws.WellFormed.pla : Sys2Proof.Laws.WellFormed.Statement .pla :=
  Sys2Proof.wellFormed_of_row rfl Sys2Proof.tableRow_68 rfl rfl rfl
theorem Sys2Proof.Laws.WellFormed.adcImm (imm : Sys2Proof.Byte) : Sys2Proof.Laws.WellFormed.Statement (.adcImm imm) :=
  Sys2Proof.wellFormed_of_row rfl Sys2Proof.tableRow_69 rfl rfl rfl
theorem Sys2Proof.Laws.WellFormed.rorAcc : Sys2Proof.Laws.WellFormed.Statement .rorAcc :=
  Sys2Proof.wellFormed_of_row rfl Sys2Proof.tableRow_6A rfl rfl rfl
theorem Sys2Proof.Laws.WellFormed.illArr6B (imm : Sys2Proof.Byte) : Sys2Proof.Laws.WellFormed.Statement (.illArr6B imm) :=
  Sys2Proof.wellFormed_of_row rfl Sys2Proof.tableRow_6B rfl rfl rfl
theorem Sys2Proof.Laws.WellFormed.jmpInd (ptr : Sys2Proof.Word) : Sys2Proof.Laws.WellFormed.Statement (.jmpInd ptr) :=
  Sys2Proof.wellFormed_of_row rfl Sys2Proof.tableRow_6C rfl rfl rfl
theorem Sys2Proof.Laws.WellFormed.adcAbs (addr : Sys2Proof.Word) : Sys2Proof.Laws.WellFormed.Statement (.adcAbs addr) :=
  Sys2Proof.wellFormed_of_row rfl Sys2Proof.tableRow_6D rfl rfl rfl
theorem Sys2Proof.Laws.WellFormed.rorAbs (addr : Sys2Proof.Word) : Sys2Proof.Laws.WellFormed.Statement (.rorAbs addr) :=
  Sys2Proof.wellFormed_of_row rfl Sys2Proof.tableRow_6E rfl rfl rfl
theorem Sys2Proof.Laws.WellFormed.illRra6F (addr : Sys2Proof.Word) : Sys2Proof.Laws.WellFormed.Statement (.illRra6F addr) :=
  Sys2Proof.wellFormed_of_row rfl Sys2Proof.tableRow_6F rfl rfl rfl
theorem Sys2Proof.Laws.WellFormed.bvs (rel : Sys2Proof.Byte) : Sys2Proof.Laws.WellFormed.Statement (.bvs rel) :=
  Sys2Proof.wellFormed_of_row rfl Sys2Proof.tableRow_70 rfl rfl rfl
theorem Sys2Proof.Laws.WellFormed.adcIzy (zp : Sys2Proof.Byte) : Sys2Proof.Laws.WellFormed.Statement (.adcIzy zp) :=
  Sys2Proof.wellFormed_of_row rfl Sys2Proof.tableRow_71 rfl rfl rfl
theorem Sys2Proof.Laws.WellFormed.illKil72 : Sys2Proof.Laws.WellFormed.Statement .illKil72 :=
  Sys2Proof.wellFormed_of_row rfl Sys2Proof.tableRow_72 rfl rfl rfl
theorem Sys2Proof.Laws.WellFormed.illRra73 (zp : Sys2Proof.Byte) : Sys2Proof.Laws.WellFormed.Statement (.illRra73 zp) :=
  Sys2Proof.wellFormed_of_row rfl Sys2Proof.tableRow_73 rfl rfl rfl
theorem Sys2Proof.Laws.WellFormed.illNop74 (zp : Sys2Proof.Byte) : Sys2Proof.Laws.WellFormed.Statement (.illNop74 zp) :=
  Sys2Proof.wellFormed_of_row rfl Sys2Proof.tableRow_74 rfl rfl rfl
theorem Sys2Proof.Laws.WellFormed.adcZpx (zp : Sys2Proof.Byte) : Sys2Proof.Laws.WellFormed.Statement (.adcZpx zp) :=
  Sys2Proof.wellFormed_of_row rfl Sys2Proof.tableRow_75 rfl rfl rfl
theorem Sys2Proof.Laws.WellFormed.rorZpx (zp : Sys2Proof.Byte) : Sys2Proof.Laws.WellFormed.Statement (.rorZpx zp) :=
  Sys2Proof.wellFormed_of_row rfl Sys2Proof.tableRow_76 rfl rfl rfl
theorem Sys2Proof.Laws.WellFormed.illRra77 (zp : Sys2Proof.Byte) : Sys2Proof.Laws.WellFormed.Statement (.illRra77 zp) :=
  Sys2Proof.wellFormed_of_row rfl Sys2Proof.tableRow_77 rfl rfl rfl
theorem Sys2Proof.Laws.WellFormed.sei : Sys2Proof.Laws.WellFormed.Statement .sei :=
  Sys2Proof.wellFormed_of_row rfl Sys2Proof.tableRow_78 rfl rfl rfl
theorem Sys2Proof.Laws.WellFormed.adcAby (base : Sys2Proof.Word) : Sys2Proof.Laws.WellFormed.Statement (.adcAby base) :=
  Sys2Proof.wellFormed_of_row rfl Sys2Proof.tableRow_79 rfl rfl rfl
theorem Sys2Proof.Laws.WellFormed.illNop7A : Sys2Proof.Laws.WellFormed.Statement .illNop7A :=
  Sys2Proof.wellFormed_of_row rfl Sys2Proof.tableRow_7A rfl rfl rfl
theorem Sys2Proof.Laws.WellFormed.illRra7B (base : Sys2Proof.Word) : Sys2Proof.Laws.WellFormed.Statement (.illRra7B base) :=
  Sys2Proof.wellFormed_of_row rfl Sys2Proof.tableRow_7B rfl rfl rfl
theorem Sys2Proof.Laws.WellFormed.illNop7C (base : Sys2Proof.Word) : Sys2Proof.Laws.WellFormed.Statement (.illNop7C base) :=
  Sys2Proof.wellFormed_of_row rfl Sys2Proof.tableRow_7C rfl rfl rfl
theorem Sys2Proof.Laws.WellFormed.adcAbx (base : Sys2Proof.Word) : Sys2Proof.Laws.WellFormed.Statement (.adcAbx base) :=
  Sys2Proof.wellFormed_of_row rfl Sys2Proof.tableRow_7D rfl rfl rfl
theorem Sys2Proof.Laws.WellFormed.rorAbx (base : Sys2Proof.Word) : Sys2Proof.Laws.WellFormed.Statement (.rorAbx base) :=
  Sys2Proof.wellFormed_of_row rfl Sys2Proof.tableRow_7E rfl rfl rfl
theorem Sys2Proof.Laws.WellFormed.illRra7F (base : Sys2Proof.Word) : Sys2Proof.Laws.WellFormed.Statement (.illRra7F base) :=
  Sys2Proof.wellFormed_of_row rfl Sys2Proof.tableRow_7F rfl rfl rfl
theorem Sys2Proof.Laws.WellFormed.illNop80 (imm : Sys2Proof.Byte) : Sys2Proof.Laws.WellFormed.Statement (.illNop80 imm) :=
  Sys2Proof.wellFormed_of_row rfl Sys2Proof.tableRow_80 rfl rfl rfl
theorem Sys2Proof.Laws.WellFormed.staIzx (zp : Sys2Proof.Byte) : Sys2Proof.Laws.WellFormed.Statement (.staIzx zp) :=
  Sys2Proof.wellFormed_of_row rfl Sys2Proof.tableRow_81 rfl rfl rfl
theorem Sys2Proof.Laws.WellFormed.illNop82 (imm : Sys2Proof.Byte) : Sys2Proof.Laws.WellFormed.Statement (.illNop82 imm) :=
  Sys2Proof.wellFormed_of_row rfl Sys2Proof.tableRow_82 rfl rfl rfl
theorem Sys2Proof.Laws.WellFormed.illSax83 (zp : Sys2Proof.Byte) : Sys2Proof.Laws.WellFormed.Statement (.illSax83 zp) :=
  Sys2Proof.wellFormed_of_row rfl Sys2Proof.tableRow_83 rfl rfl rfl
theorem Sys2Proof.Laws.WellFormed.styZp (zp : Sys2Proof.Byte) : Sys2Proof.Laws.WellFormed.Statement (.styZp zp) :=
  Sys2Proof.wellFormed_of_row rfl Sys2Proof.tableRow_84 rfl rfl rfl
theorem Sys2Proof.Laws.WellFormed.staZp (zp : Sys2Proof.Byte) : Sys2Proof.Laws.WellFormed.Statement (.staZp zp) :=
  Sys2Proof.wellFormed_of_row rfl Sys2Proof.tableRow_85 rfl rfl rfl
theorem Sys2Proof.Laws.WellFormed.stxZp (zp : Sys2Proof.Byte) : Sys2Proof.Laws.WellFormed.Statement (.stxZp zp) :=
  Sys2Proof.wellFormed_of_row rfl Sys2Proof.tableRow_86 rfl rfl rfl
theorem Sys2Proof.Laws.WellFormed.illSax87 (zp : Sys2Proof.Byte) : Sys2Proof.Laws.WellFormed.Statement (.illSax87 zp) :=
  Sys2Proof.wellFormed_of_row rfl Sys2Proof.tableRow_87 rfl rfl rfl
theorem Sys2Proof.Laws.WellFormed.dey : Sys2Proof.Laws.WellFormed.Statement .dey :=
  Sys2Proof.wellFormed_of_row rfl Sys2Proof.tableRow_88 rfl rfl rfl
theorem Sys2Proof.Laws.WellFormed.illNop89 (imm : Sys2Proof.Byte) : Sys2Proof.Laws.WellFormed.Statement (.illNop89 imm) :=
  Sys2Proof.wellFormed_of_row rfl Sys2Proof.tableRow_89 rfl rfl rfl
theorem Sys2Proof.Laws.WellFormed.txa : Sys2Proof.Laws.WellFormed.Statement .txa :=
  Sys2Proof.wellFormed_of_row rfl Sys2Proof.tableRow_8A rfl rfl rfl
theorem Sys2Proof.Laws.WellFormed.illAne8B (imm : Sys2Proof.Byte) : Sys2Proof.Laws.WellFormed.Statement (.illAne8B imm) :=
  Sys2Proof.wellFormed_of_row rfl Sys2Proof.tableRow_8B rfl rfl rfl
theorem Sys2Proof.Laws.WellFormed.styAbs (addr : Sys2Proof.Word) : Sys2Proof.Laws.WellFormed.Statement (.styAbs addr) :=
  Sys2Proof.wellFormed_of_row rfl Sys2Proof.tableRow_8C rfl rfl rfl
theorem Sys2Proof.Laws.WellFormed.staAbs (addr : Sys2Proof.Word) : Sys2Proof.Laws.WellFormed.Statement (.staAbs addr) :=
  Sys2Proof.wellFormed_of_row rfl Sys2Proof.tableRow_8D rfl rfl rfl
theorem Sys2Proof.Laws.WellFormed.stxAbs (addr : Sys2Proof.Word) : Sys2Proof.Laws.WellFormed.Statement (.stxAbs addr) :=
  Sys2Proof.wellFormed_of_row rfl Sys2Proof.tableRow_8E rfl rfl rfl
theorem Sys2Proof.Laws.WellFormed.illSax8F (addr : Sys2Proof.Word) : Sys2Proof.Laws.WellFormed.Statement (.illSax8F addr) :=
  Sys2Proof.wellFormed_of_row rfl Sys2Proof.tableRow_8F rfl rfl rfl
theorem Sys2Proof.Laws.WellFormed.bcc (rel : Sys2Proof.Byte) : Sys2Proof.Laws.WellFormed.Statement (.bcc rel) :=
  Sys2Proof.wellFormed_of_row rfl Sys2Proof.tableRow_90 rfl rfl rfl
theorem Sys2Proof.Laws.WellFormed.staIzy (zp : Sys2Proof.Byte) : Sys2Proof.Laws.WellFormed.Statement (.staIzy zp) :=
  Sys2Proof.wellFormed_of_row rfl Sys2Proof.tableRow_91 rfl rfl rfl
theorem Sys2Proof.Laws.WellFormed.illKil92 : Sys2Proof.Laws.WellFormed.Statement .illKil92 :=
  Sys2Proof.wellFormed_of_row rfl Sys2Proof.tableRow_92 rfl rfl rfl
theorem Sys2Proof.Laws.WellFormed.illSha93 (zp : Sys2Proof.Byte) : Sys2Proof.Laws.WellFormed.Statement (.illSha93 zp) :=
  Sys2Proof.wellFormed_of_row rfl Sys2Proof.tableRow_93 rfl rfl rfl
theorem Sys2Proof.Laws.WellFormed.styZpx (zp : Sys2Proof.Byte) : Sys2Proof.Laws.WellFormed.Statement (.styZpx zp) :=
  Sys2Proof.wellFormed_of_row rfl Sys2Proof.tableRow_94 rfl rfl rfl
theorem Sys2Proof.Laws.WellFormed.staZpx (zp : Sys2Proof.Byte) : Sys2Proof.Laws.WellFormed.Statement (.staZpx zp) :=
  Sys2Proof.wellFormed_of_row rfl Sys2Proof.tableRow_95 rfl rfl rfl
theorem Sys2Proof.Laws.WellFormed.stxZpy (zp : Sys2Proof.Byte) : Sys2Proof.Laws.WellFormed.Statement (.stxZpy zp) :=
  Sys2Proof.wellFormed_of_row rfl Sys2Proof.tableRow_96 rfl rfl rfl
theorem Sys2Proof.Laws.WellFormed.illSax97 (zp : Sys2Proof.Byte) : Sys2Proof.Laws.WellFormed.Statement (.illSax97 zp) :=
  Sys2Proof.wellFormed_of_row rfl Sys2Proof.tableRow_97 rfl rfl rfl
theorem Sys2Proof.Laws.WellFormed.tya : Sys2Proof.Laws.WellFormed.Statement .tya :=
  Sys2Proof.wellFormed_of_row rfl Sys2Proof.tableRow_98 rfl rfl rfl
theorem Sys2Proof.Laws.WellFormed.staAby (base : Sys2Proof.Word) : Sys2Proof.Laws.WellFormed.Statement (.staAby base) :=
  Sys2Proof.wellFormed_of_row rfl Sys2Proof.tableRow_99 rfl rfl rfl
theorem Sys2Proof.Laws.WellFormed.txs : Sys2Proof.Laws.WellFormed.Statement .txs :=
  Sys2Proof.wellFormed_of_row rfl Sys2Proof.tableRow_9A rfl rfl rfl
theorem Sys2Proof.Laws.WellFormed.illTas9B (base : Sys2Proof.Word) : Sys2Proof.Laws.WellFormed.Statement (.illTas9B base) :=
  Sys2Proof.wellFormed_of_row rfl Sys2Proof.tableRow_9B rfl rfl rfl
theorem Sys2Proof.Laws.WellFormed.illShy9C (base : Sys2Proof.Word) : Sys2Proof.Laws.WellFormed.Statement (.illShy9C base) :=
  Sys2Proof.wellFormed_of_row rfl Sys2Proof.tableRow_9C rfl rfl rfl
theorem Sys2Proof.Laws.WellFormed.staAbx (base : Sys2Proof.Word) : Sys2Proof.Laws.WellFormed.Statement (.staAbx base) :=
  Sys2Proof.wellFormed_of_row rfl Sys2Proof.tableRow_9D rfl rfl rfl
theorem Sys2Proof.Laws.WellFormed.illShx9E (base : Sys2Proof.Word) : Sys2Proof.Laws.WellFormed.Statement (.illShx9E base) :=
  Sys2Proof.wellFormed_of_row rfl Sys2Proof.tableRow_9E rfl rfl rfl
theorem Sys2Proof.Laws.WellFormed.illSha9F (base : Sys2Proof.Word) : Sys2Proof.Laws.WellFormed.Statement (.illSha9F base) :=
  Sys2Proof.wellFormed_of_row rfl Sys2Proof.tableRow_9F rfl rfl rfl
theorem Sys2Proof.Laws.WellFormed.ldyImm (imm : Sys2Proof.Byte) : Sys2Proof.Laws.WellFormed.Statement (.ldyImm imm) :=
  Sys2Proof.wellFormed_of_row rfl Sys2Proof.tableRow_A0 rfl rfl rfl
theorem Sys2Proof.Laws.WellFormed.ldaIzx (zp : Sys2Proof.Byte) : Sys2Proof.Laws.WellFormed.Statement (.ldaIzx zp) :=
  Sys2Proof.wellFormed_of_row rfl Sys2Proof.tableRow_A1 rfl rfl rfl
theorem Sys2Proof.Laws.WellFormed.ldxImm (imm : Sys2Proof.Byte) : Sys2Proof.Laws.WellFormed.Statement (.ldxImm imm) :=
  Sys2Proof.wellFormed_of_row rfl Sys2Proof.tableRow_A2 rfl rfl rfl
theorem Sys2Proof.Laws.WellFormed.illLaxA3 (zp : Sys2Proof.Byte) : Sys2Proof.Laws.WellFormed.Statement (.illLaxA3 zp) :=
  Sys2Proof.wellFormed_of_row rfl Sys2Proof.tableRow_A3 rfl rfl rfl
theorem Sys2Proof.Laws.WellFormed.ldyZp (zp : Sys2Proof.Byte) : Sys2Proof.Laws.WellFormed.Statement (.ldyZp zp) :=
  Sys2Proof.wellFormed_of_row rfl Sys2Proof.tableRow_A4 rfl rfl rfl
theorem Sys2Proof.Laws.WellFormed.ldaZp (zp : Sys2Proof.Byte) : Sys2Proof.Laws.WellFormed.Statement (.ldaZp zp) :=
  Sys2Proof.wellFormed_of_row rfl Sys2Proof.tableRow_A5 rfl rfl rfl
theorem Sys2Proof.Laws.WellFormed.ldxZp (zp : Sys2Proof.Byte) : Sys2Proof.Laws.WellFormed.Statement (.ldxZp zp) :=
  Sys2Proof.wellFormed_of_row rfl Sys2Proof.tableRow_A6 rfl rfl rfl
theorem Sys2Proof.Laws.WellFormed.illLaxA7 (zp : Sys2Proof.Byte) : Sys2Proof.Laws.WellFormed.Statement (.illLaxA7 zp) :=
  Sys2Proof.wellFormed_of_row rfl Sys2Proof.tableRow_A7 rfl rfl rfl
theorem Sys2Proof.Laws.WellFormed.tay : Sys2Proof.Laws.WellFormed.Statement .tay :=
  Sys2Proof.wellFormed_of_row rfl Sys2Proof.tableRow_A8 rfl rfl rfl
theorem Sys2Proof.Laws.WellFormed.ldaImm (imm : Sys2Proof.Byte) : Sys2Proof.Laws.WellFormed.Statement (.ldaImm imm) :=
  Sys2Proof.wellFormed_of_row rfl Sys2Proof.tableRow_A9 rfl rfl rfl
theorem Sys2Proof.Laws.WellFormed.tax : Sys2Proof.Laws.WellFormed.Statement .tax :=
  Sys2Proof.wellFormed_of_row rfl Sys2Proof.tableRow_AA rfl rfl rfl
theorem Sys2Proof.Laws.WellFormed.illLxaAB (imm : Sys2Proof.Byte) : Sys2Proof.Laws.WellFormed.Statement (.illLxaAB imm) :=
  Sys2Proof.wellFormed_of_row rfl Sys2Proof.tableRow_AB rfl rfl rfl
theorem Sys2Proof.Laws.WellFormed.ldyAbs (addr : Sys2Proof.Word) : Sys2Proof.Laws.WellFormed.Statement (.ldyAbs addr) :=
  Sys2Proof.wellFormed_of_row rfl Sys2Proof.tableRow_AC rfl rfl rfl
theorem Sys2Proof.Laws.WellFormed.ldaAbs (addr : Sys2Proof.Word) : Sys2Proof.Laws.WellFormed.Statement (.ldaAbs addr) :=
  Sys2Proof.wellFormed_of_row rfl Sys2Proof.tableRow_AD rfl rfl rfl
theorem Sys2Proof.Laws.WellFormed.ldxAbs (addr : Sys2Proof.Word) : Sys2Proof.Laws.WellFormed.Statement (.ldxAbs addr) :=
  Sys2Proof.wellFormed_of_row rfl Sys2Proof.tableRow_AE rfl rfl rfl
theorem Sys2Proof.Laws.WellFormed.illLaxAF (addr : Sys2Proof.Word) : Sys2Proof.Laws.WellFormed.Statement (.illLaxAF addr) :=
  Sys2Proof.wellFormed_of_row rfl Sys2Proof.tableRow_AF rfl rfl rfl
theorem Sys2Proof.Laws.WellFormed.bcs (rel : Sys2Proof.Byte) : Sys2Proof.Laws.WellFormed.Statement (.bcs rel) :=
  Sys2Proof.wellFormed_of_row rfl Sys2Proof.tableRow_B0 rfl rfl rfl
theorem Sys2Proof.Laws.WellFormed.ldaIzy (zp : Sys2Proof.Byte) : Sys2Proof.Laws.WellFormed.Statement (.ldaIzy zp) :=
  Sys2Proof.wellFormed_of_row rfl Sys2Proof.tableRow_B1 rfl rfl rfl
theorem Sys2Proof.Laws.WellFormed.illKilB2 : Sys2Proof.Laws.WellFormed.Statement .illKilB2 :=
  Sys2Proof.wellFormed_of_row rfl Sys2Proof.tableRow_B2 rfl rfl rfl
theorem Sys2Proof.Laws.WellFormed.illLaxB3 (zp : Sys2Proof.Byte) : Sys2Proof.Laws.WellFormed.Statement (.illLaxB3 zp) :=
  Sys2Proof.wellFormed_of_row rfl Sys2Proof.tableRow_B3 rfl rfl rfl
theorem Sys2Proof.Laws.WellFormed.ldyZpx (zp : Sys2Proof.Byte) : Sys2Proof.Laws.WellFormed.Statement (.ldyZpx zp) :=
  Sys2Proof.wellFormed_of_row rfl Sys2Proof.tableRow_B4 rfl rfl rfl
theorem Sys2Proof.Laws.WellFormed.ldaZpx (zp : Sys2Proof.Byte) : Sys2Proof.Laws.WellFormed.Statement (.ldaZpx zp) :=
  Sys2Proof.wellFormed_of_row rfl Sys2Proof.tableRow_B5 rfl rfl rfl
theorem Sys2Proof.Laws.WellFormed.ldxZpy (zp : Sys2Proof.Byte) : Sys2Proof.Laws.WellFormed.Statement (.ldxZpy zp) :=
  Sys2Proof.wellFormed_of_row rfl Sys2Proof.tableRow_B6 rfl rfl rfl
theorem Sys2Proof.Laws.WellFormed.illLaxB7 (zp : Sys2Proof.Byte) : Sys2Proof.Laws.WellFormed.Statement (.illLaxB7 zp) :=
  Sys2Proof.wellFormed_of_row rfl Sys2Proof.tableRow_B7 rfl rfl rfl
theorem Sys2Proof.Laws.WellFormed.clv : Sys2Proof.Laws.WellFormed.Statement .clv :=
  Sys2Proof.wellFormed_of_row rfl Sys2Proof.tableRow_B8 rfl rfl rfl
theorem Sys2Proof.Laws.WellFormed.ldaAby (base : Sys2Proof.Word) : Sys2Proof.Laws.WellFormed.Statement (.ldaAby base) :=
  Sys2Proof.wellFormed_of_row rfl Sys2Proof.tableRow_B9 rfl rfl rfl
theorem Sys2Proof.Laws.WellFormed.tsx : Sys2Proof.Laws.WellFormed.Statement .tsx :=
  Sys2Proof.wellFormed_of_row rfl Sys2Proof.tableRow_BA rfl rfl rfl
theorem Sys2Proof.Laws.WellFormed.illLasBB (base : Sys2Proof.Word) : Sys2Proof.Laws.WellFormed.Statement (.illLasBB base) :=
  Sys2Proof.wellFormed_of_row rfl Sys2Proof.tableRow_BB rfl rfl rfl
theorem Sys2Proof.Laws.WellFormed.ldyAbx (base : Sys2Proof.Word) : Sys2Proof.Laws.WellFormed.Statement (.ldyAbx base) :=
  Sys2Proof.wellFormed_of_row rfl Sys2Proof.tableRow_BC rfl rfl rfl
theorem Sys2Proof.Laws.WellFormed.ldaAbx (base : Sys2Proof.Word) : Sys2Proof.Laws.WellFormed.Statement (.ldaAbx base) :=
  Sys2Proof.wellFormed_of_row rfl Sys2Proof.tableRow_BD rfl rfl rfl
theorem Sys2Proof.Laws.WellFormed.ldxAby (base : Sys2Proof.Word) : Sys2Proof.Laws.WellFormed.Statement (.ldxAby base) :=
  Sys2Proof.wellFormed_of_row rfl Sys2Proof.tableRow_BE rfl rfl rfl
theorem Sys2Proof.Laws.WellFormed.illLaxBF (base : Sys2Proof.Word) : Sys2Proof.Laws.WellFormed.Statement (.illLaxBF base) :=
  Sys2Proof.wellFormed_of_row rfl Sys2Proof.tableRow_BF rfl rfl rfl
theorem Sys2Proof.Laws.WellFormed.cpyImm (imm : Sys2Proof.Byte) : Sys2Proof.Laws.WellFormed.Statement (.cpyImm imm) :=
  Sys2Proof.wellFormed_of_row rfl Sys2Proof.tableRow_C0 rfl rfl rfl
theorem Sys2Proof.Laws.WellFormed.cmpIzx (zp : Sys2Proof.Byte) : Sys2Proof.Laws.WellFormed.Statement (.cmpIzx zp) :=
  Sys2Proof.wellFormed_of_row rfl Sys2Proof.tableRow_C1 rfl rfl rfl
theorem Sys2Proof.Laws.WellFormed.illNopC2 (imm : Sys2Proof.Byte) : Sys2Proof.Laws.WellFormed.Statement (.illNopC2 imm) :=
  Sys2Proof.wellFormed_of_row rfl Sys2Proof.tableRow_C2 rfl rfl rfl
theorem Sys2Proof.Laws.WellFormed.illDcpC3 (zp : Sys2Proof.Byte) : Sys2Proof.Laws.WellFormed.Statement (.illDcpC3 zp) :=
  Sys2Proof.wellFormed_of_row rfl Sys2Proof.tableRow_C3 rfl rfl rfl
theorem Sys2Proof.Laws.WellFormed.cpyZp (zp : Sys2Proof.Byte) : Sys2Proof.Laws.WellFormed.Statement (.cpyZp zp) :=
  Sys2Proof.wellFormed_of_row rfl Sys2Proof.tableRow_C4 rfl rfl rfl
theorem Sys2Proof.Laws.WellFormed.cmpZp (zp : Sys2Proof.Byte) : Sys2Proof.Laws.WellFormed.Statement (.cmpZp zp) :=
  Sys2Proof.wellFormed_of_row rfl Sys2Proof.tableRow_C5 rfl rfl rfl
theorem Sys2Proof.Laws.WellFormed.decZp (zp : Sys2Proof.Byte) : Sys2Proof.Laws.WellFormed.Statement (.decZp zp) :=
  Sys2Proof.wellFormed_of_row rfl Sys2Proof.tableRow_C6 rfl rfl rfl
theorem Sys2Proof.Laws.WellFormed.illDcpC7 (zp : Sys2Proof.Byte) : Sys2Proof.Laws.WellFormed.Statement (.illDcpC7 zp) :=
  Sys2Proof.wellFormed_of_row rfl Sys2Proof.tableRow_C7 rfl rfl rfl
theorem Sys2Proof.Laws.WellFormed.iny : Sys2Proof.Laws.WellFormed.Statement .iny :=
  Sys2Proof.wellFormed_of_row rfl Sys2Proof.tableRow_C8 rfl rfl rfl
theorem Sys2Proof.Laws.WellFormed.cmpImm (imm : Sys2Proof.Byte) : Sys2Proof.Laws.WellFormed.Statement (.cmpImm imm) :=
  Sys2Proof.wellFormed_of_row rfl Sys2Proof.tableRow_C9 rfl rfl rfl
theorem Sys2Proof.Laws.WellFormed.dex : Sys2Proof.Laws.WellFormed.Statement .dex :=
  Sys2Proof.wellFormed_of_row rfl Sys2Proof.tableRow_CA rfl rfl rfl
theorem Sys2Proof.Laws.WellFormed.illSbxCB (imm : Sys2Proof.Byte) : Sys2Proof.Laws.WellFormed.Statement (.illSbxCB imm) :=
  Sys2Proof.wellFormed_of_row rfl Sys2Proof.tableRow_CB rfl rfl rfl
theorem Sys2Proof.Laws.WellFormed.cpyAbs (addr : Sys2Proof.Word) : Sys2Proof.Laws.WellFormed.Statement (.cpyAbs addr) :=
  Sys2Proof.wellFormed_of_row rfl Sys2Proof.tableRow_CC rfl rfl rfl
theorem Sys2Proof.Laws.WellFormed.cmpAbs (addr : Sys2Proof.Word) : Sys2Proof.Laws.WellFormed.Statement (.cmpAbs addr) :=
  Sys2Proof.wellFormed_of_row rfl Sys2Proof.tableRow_CD rfl rfl rfl
theorem Sys2Proof.Laws.WellFormed.decAbs (addr : Sys2Proof.Word) : Sys2Proof.Laws.WellFormed.Statement (.decAbs addr) :=
  Sys2Proof.wellFormed_of_row rfl Sys2Proof.tableRow_CE rfl rfl rfl
theorem Sys2Proof.Laws.WellFormed.illDcpCF (addr : Sys2Proof.Word) : Sys2Proof.Laws.WellFormed.Statement (.illDcpCF addr) :=
  Sys2Proof.wellFormed_of_row rfl Sys2Proof.tableRow_CF rfl rfl rfl
theorem Sys2Proof.Laws.WellFormed.bne (rel : Sys2Proof.Byte) : Sys2Proof.Laws.WellFormed.Statement (.bne rel) :=
  Sys2Proof.wellFormed_of_row rfl Sys2Proof.tableRow_D0 rfl rfl rfl
theorem Sys2Proof.Laws.WellFormed.cmpIzy (zp : Sys2Proof.Byte) : Sys2Proof.Laws.WellFormed.Statement (.cmpIzy zp) :=
  Sys2Proof.wellFormed_of_row rfl Sys2Proof.tableRow_D1 rfl rfl rfl
theorem Sys2Proof.Laws.WellFormed.illKilD2 : Sys2Proof.Laws.WellFormed.Statement .illKilD2 :=
  Sys2Proof.wellFormed_of_row rfl Sys2Proof.tableRow_D2 rfl rfl rfl
theorem Sys2Proof.Laws.WellFormed.illDcpD3 (zp : Sys2Proof.Byte) : Sys2Proof.Laws.WellFormed.Statement (.illDcpD3 zp) :=
  Sys2Proof.wellFormed_of_row rfl Sys2Proof.tableRow_D3 rfl rfl rfl
theorem Sys2Proof.Laws.WellFormed.illNopD4 (zp : Sys2Proof.Byte) : Sys2Proof.Laws.WellFormed.Statement (.illNopD4 zp) :=
  Sys2Proof.wellFormed_of_row rfl Sys2Proof.tableRow_D4 rfl rfl rfl
theorem Sys2Proof.Laws.WellFormed.cmpZpx (zp : Sys2Proof.Byte) : Sys2Proof.Laws.WellFormed.Statement (.cmpZpx zp) :=
  Sys2Proof.wellFormed_of_row rfl Sys2Proof.tableRow_D5 rfl rfl rfl
theorem Sys2Proof.Laws.WellFormed.decZpx (zp : Sys2Proof.Byte) : Sys2Proof.Laws.WellFormed.Statement (.decZpx zp) :=
  Sys2Proof.wellFormed_of_row rfl Sys2Proof.tableRow_D6 rfl rfl rfl
theorem Sys2Proof.Laws.WellFormed.illDcpD7 (zp : Sys2Proof.Byte) : Sys2Proof.Laws.WellFormed.Statement (.illDcpD7 zp) :=
  Sys2Proof.wellFormed_of_row rfl Sys2Proof.tableRow_D7 rfl rfl rfl
theorem Sys2Proof.Laws.WellFormed.cld : Sys2Proof.Laws.WellFormed.Statement .cld :=
  Sys2Proof.wellFormed_of_row rfl Sys2Proof.tableRow_D8 rfl rfl rfl
theorem Sys2Proof.Laws.WellFormed.cmpAby (base : Sys2Proof.Word) : Sys2Proof.Laws.WellFormed.Statement (.cmpAby base) :=
  Sys2Proof.wellFormed_of_row rfl Sys2Proof.tableRow_D9 rfl rfl rfl
theorem Sys2Proof.Laws.WellFormed.illNopDA : Sys2Proof.Laws.WellFormed.Statement .illNopDA :=
  Sys2Proof.wellFormed_of_row rfl Sys2Proof.tableRow_DA rfl rfl rfl
theorem Sys2Proof.Laws.WellFormed.illDcpDB (base : Sys2Proof.Word) : Sys2Proof.Laws.WellFormed.Statement (.illDcpDB base) :=
  Sys2Proof.wellFormed_of_row rfl Sys2Proof.tableRow_DB rfl rfl rfl
theorem Sys2Proof.Laws.WellFormed.illNopDC (base : Sys2Proof.Word) : Sys2Proof.Laws.WellFormed.Statement (.illNopDC base) :=
  Sys2Proof.wellFormed_of_row rfl Sys2Proof.tableRow_DC rfl rfl rfl
theorem Sys2Proof.Laws.WellFormed.cmpAbx (base : Sys2Proof.Word) : Sys2Proof.Laws.WellFormed.Statement (.cmpAbx base) :=
  Sys2Proof.wellFormed_of_row rfl Sys2Proof.tableRow_DD rfl rfl rfl
theorem Sys2Proof.Laws.WellFormed.decAbx (base : Sys2Proof.Word) : Sys2Proof.Laws.WellFormed.Statement (.decAbx base) :=
  Sys2Proof.wellFormed_of_row rfl Sys2Proof.tableRow_DE rfl rfl rfl
theorem Sys2Proof.Laws.WellFormed.illDcpDF (base : Sys2Proof.Word) : Sys2Proof.Laws.WellFormed.Statement (.illDcpDF base) :=
  Sys2Proof.wellFormed_of_row rfl Sys2Proof.tableRow_DF rfl rfl rfl
theorem Sys2Proof.Laws.WellFormed.cpxImm (imm : Sys2Proof.Byte) : Sys2Proof.Laws.WellFormed.Statement (.cpxImm imm) :=
  Sys2Proof.wellFormed_of_row rfl Sys2Proof.tableRow_E0 rfl rfl rfl
theorem Sys2Proof.Laws.WellFormed.sbcIzx (zp : Sys2Proof.Byte) : Sys2Proof.Laws.WellFormed.Statement (.sbcIzx zp) :=
  Sys2Proof.wellFormed_of_row rfl Sys2Proof.tableRow_E1 rfl rfl rfl
theorem Sys2Proof.Laws.WellFormed.illNopE2 (imm : Sys2Proof.Byte) : Sys2Proof.Laws.WellFormed.Statement (.illNopE2 imm) :=
  Sys2Proof.wellFormed_of_row rfl Sys2Proof.tableRow_E2 rfl rfl rfl
theorem Sys2Proof.Laws.WellFormed.illIscE3 (zp : Sys2Proof.Byte) : Sys2Proof.Laws.WellFormed.Statement (.illIscE3 zp) :=
  Sys2Proof.wellFormed_of_row rfl Sys2Proof.tableRow_E3 rfl rfl rfl
theorem Sys2Proof.Laws.WellFormed.cpxZp (zp : Sys2Proof.Byte) : Sys2Proof.Laws.WellFormed.Statement (.cpxZp zp) :=
  Sys2Proof.wellFormed_of_row rfl Sys2Proof.tableRow_E4 rfl rfl rfl
theorem Sys2Proof.Laws.WellFormed.sbcZp (zp : Sys2Proof.Byte) : Sys2Proof.Laws.WellFormed.Statement (.sbcZp zp) :=
  Sys2Proof.wellFormed_of_row rfl Sys2Proof.tableRow_E5 rfl rfl rfl
theorem Sys2Proof.Laws.WellFormed.incZp (zp : Sys2Proof.Byte) : Sys2Proof.Laws.WellFormed.Statement (.incZp zp) :=
  Sys2Proof.wellFormed_of_row rfl Sys2Proof.tableRow_E6 rfl rfl rfl
theorem Sys2Proof.Laws.WellFormed.illIscE7 (zp : Sys2Proof.Byte) : Sys2Proof.Laws.WellFormed.Statement (.illIscE7 zp) :=
  Sys2Proof.wellFormed_of_row rfl Sys2Proof.tableRow_E7 rfl rfl rfl
theorem Sys2Proof.Laws.WellFormed.inx : Sys2Proof.Laws.WellFormed.Statement .inx :=
  Sys2Proof.wellFormed_of_row rfl Sys2Proof.tableRow_E8 rfl rfl rfl
theorem Sys2Proof.Laws.WellFormed.sbcImm (imm : Sys2Proof.Byte) : Sys2Proof.Laws.WellFormed.Statement (.sbcImm imm) :=
  Sys2Proof.wellFormed_of_row rfl Sys2Proof.tableRow_E9 rfl rfl rfl
theorem Sys2Proof.Laws.WellFormed.nop : Sys2Proof.Laws.WellFormed.Statement .nop :=
  Sys2Proof.wellFormed_of_row rfl Sys2Proof.tableRow_EA rfl rfl rfl
theorem Sys2Proof.Laws.WellFormed.illUsbcEB (imm : Sys2Proof.Byte) : Sys2Proof.Laws.WellFormed.Statement (.illUsbcEB imm) :=
  Sys2Proof.wellFormed_of_row rfl Sys2Proof.tableRow_EB rfl rfl rfl
theorem Sys2Proof.Laws.WellFormed.cpxAbs (addr : Sys2Proof.Word) : Sys2Proof.Laws.WellFormed.Statement (.cpxAbs addr) :=
  Sys2Proof.wellFormed_of_row rfl Sys2Proof.tableRow_EC rfl rfl rfl
theorem Sys2Proof.Laws.WellFormed.sbcAbs (addr : Sys2Proof.Word) : Sys2Proof.Laws.WellFormed.Statement (.sbcAbs addr) :=
  Sys2Proof.wellFormed_of_row rfl Sys2Proof.tableRow_ED rfl rfl rfl
theorem Sys2Proof.Laws.WellFormed.incAbs (addr : Sys2Proof.Word) : Sys2Proof.Laws.WellFormed.Statement (.incAbs addr) :=
  Sys2Proof.wellFormed_of_row rfl Sys2Proof.tableRow_EE rfl rfl rfl
theorem Sys2Proof.Laws.WellFormed.illIscEF (addr : Sys2Proof.Word) : Sys2Proof.Laws.WellFormed.Statement (.illIscEF addr) :=
  Sys2Proof.wellFormed_of_row rfl Sys2Proof.tableRow_EF rfl rfl rfl
theorem Sys2Proof.Laws.WellFormed.beq (rel : Sys2Proof.Byte) : Sys2Proof.Laws.WellFormed.Statement (.beq rel) :=
  Sys2Proof.wellFormed_of_row rfl Sys2Proof.tableRow_F0 rfl rfl rfl
theorem Sys2Proof.Laws.WellFormed.sbcIzy (zp : Sys2Proof.Byte) : Sys2Proof.Laws.WellFormed.Statement (.sbcIzy zp) :=
  Sys2Proof.wellFormed_of_row rfl Sys2Proof.tableRow_F1 rfl rfl rfl
theorem Sys2Proof.Laws.WellFormed.illKilF2 : Sys2Proof.Laws.WellFormed.Statement .illKilF2 :=
  Sys2Proof.wellFormed_of_row rfl Sys2Proof.tableRow_F2 rfl rfl rfl
theorem Sys2Proof.Laws.WellFormed.illIscF3 (zp : Sys2Proof.Byte) : Sys2Proof.Laws.WellFormed.Statement (.illIscF3 zp) :=
  Sys2Proof.wellFormed_of_row rfl Sys2Proof.tableRow_F3 rfl rfl rfl
theorem Sys2Proof.Laws.WellFormed.illNopF4 (zp : Sys2Proof.Byte) : Sys2Proof.Laws.WellFormed.Statement (.illNopF4 zp) :=
  Sys2Proof.wellFormed_of_row rfl Sys2Proof.tableRow_F4 rfl rfl rfl
theorem Sys2Proof.Laws.WellFormed.sbcZpx (zp : Sys2Proof.Byte) : Sys2Proof.Laws.WellFormed.Statement (.sbcZpx zp) :=
  Sys2Proof.wellFormed_of_row rfl Sys2Proof.tableRow_F5 rfl rfl rfl
theorem Sys2Proof.Laws.WellFormed.incZpx (zp : Sys2Proof.Byte) : Sys2Proof.Laws.WellFormed.Statement (.incZpx zp) :=
  Sys2Proof.wellFormed_of_row rfl Sys2Proof.tableRow_F6 rfl rfl rfl
theorem Sys2Proof.Laws.WellFormed.illIscF7 (zp : Sys2Proof.Byte) : Sys2Proof.Laws.WellFormed.Statement (.illIscF7 zp) :=
  Sys2Proof.wellFormed_of_row rfl Sys2Proof.tableRow_F7 rfl rfl rfl
theorem Sys2Proof.Laws.WellFormed.sed : Sys2Proof.Laws.WellFormed.Statement .sed :=
  Sys2Proof.wellFormed_of_row rfl Sys2Proof.tableRow_F8 rfl rfl rfl
theorem Sys2Proof.Laws.WellFormed.sbcAby (base : Sys2Proof.Word) : Sys2Proof.Laws.WellFormed.Statement (.sbcAby base) :=
  Sys2Proof.wellFormed_of_row rfl Sys2Proof.tableRow_F9 rfl rfl rfl
theorem Sys2Proof.Laws.WellFormed.illNopFA : Sys2Proof.Laws.WellFormed.Statement .illNopFA :=
  Sys2Proof.wellFormed_of_row rfl Sys2Proof.tableRow_FA rfl rfl rfl
theorem Sys2Proof.Laws.WellFormed.illIscFB (base : Sys2Proof.Word) : Sys2Proof.Laws.WellFormed.Statement (.illIscFB base) :=
  Sys2Proof.wellFormed_of_row rfl Sys2Proof.tableRow_FB rfl rfl rfl
theorem Sys2Proof.Laws.WellFormed.illNopFC (base : Sys2Proof.Word) : Sys2Proof.Laws.WellFormed.Statement (.illNopFC base) :=
  Sys2Proof.wellFormed_of_row rfl Sys2Proof.tableRow_FC rfl rfl rfl
theorem Sys2Proof.Laws.WellFormed.sbcAbx (base : Sys2Proof.Word) : Sys2Proof.Laws.WellFormed.Statement (.sbcAbx base) :=
  Sys2Proof.wellFormed_of_row rfl Sys2Proof.tableRow_FD rfl rfl rfl
theorem Sys2Proof.Laws.WellFormed.incAbx (base : Sys2Proof.Word) : Sys2Proof.Laws.WellFormed.Statement (.incAbx base) :=
  Sys2Proof.wellFormed_of_row rfl Sys2Proof.tableRow_FE rfl rfl rfl
theorem Sys2Proof.Laws.WellFormed.illIscFF (base : Sys2Proof.Word) : Sys2Proof.Laws.WellFormed.Statement (.illIscFF base) :=
  Sys2Proof.wellFormed_of_row rfl Sys2Proof.tableRow_FF rfl rfl rfl
end

