-- ==== Sys2Proof/Machine/Disassembly.lean ====
section
/-! DEFINITION. The assembler syntax of spec/30_encoding.md R100: the text of an instruction, for the host ("for
disassembly/debugging", R94). Nothing of the machine depends on it. -/

namespace Sys2Proof

/-- The mnemonic as the table spells it (R103); an illegal row's begins with an asterisk (R97). -/
def mnemonicText : Mnemonic → List Char
  | .and => ['A', 'N', 'D']
  | .ora => ['O', 'R', 'A']
  | .eor => ['E', 'O', 'R']
  | .asl => ['A', 'S', 'L']
  | .lsr => ['L', 'S', 'R']
  | .rol => ['R', 'O', 'L']
  | .ror => ['R', 'O', 'R']
  | .bpl => ['B', 'P', 'L']
  | .bmi => ['B', 'M', 'I']
  | .bvc => ['B', 'V', 'C']
  | .bvs => ['B', 'V', 'S']
  | .bcc => ['B', 'C', 'C']
  | .bcs => ['B', 'C', 'S']
  | .bne => ['B', 'N', 'E']
  | .beq => ['B', 'E', 'Q']
  | .cmp => ['C', 'M', 'P']
  | .cpx => ['C', 'P', 'X']
  | .cpy => ['C', 'P', 'Y']
  | .bit => ['B', 'I', 'T']
  | .clc => ['C', 'L', 'C']
  | .cld => ['C', 'L', 'D']
  | .cli => ['C', 'L', 'I']
  | .clv => ['C', 'L', 'V']
  | .sec => ['S', 'E', 'C']
  | .sed => ['S', 'E', 'D']
  | .sei => ['S', 'E', 'I']
  | .jmp => ['J', 'M', 'P']
  | .jsr => ['J', 'S', 'R']
  | .rts => ['R', 'T', 'S']
  | .rti => ['R', 'T', 'I']
  | .adc => ['A', 'D', 'C']
  | .sbc => ['S', 'B', 'C']
  | .lda => ['L', 'D', 'A']
  | .ldx => ['L', 'D', 'X']
  | .ldy => ['L', 'D', 'Y']
  | .sta => ['S', 'T', 'A']
  | .stx => ['S', 'T', 'X']
  | .sty => ['S', 'T', 'Y']
  | .inc => ['I', 'N', 'C']
  | .dec => ['D', 'E', 'C']
  | .inx => ['I', 'N', 'X']
  | .iny => ['I', 'N', 'Y']
  | .dex => ['D', 'E', 'X']
  | .dey => ['D', 'E', 'Y']
  | .tax => ['T', 'A', 'X']
  | .tay => ['T', 'A', 'Y']
  | .txa => ['T', 'X', 'A']
  | .tya => ['T', 'Y', 'A']
  | .tsx => ['T', 'S', 'X']
  | .txs => ['T', 'X', 'S']
  | .pha => ['P', 'H', 'A']
  | .php => ['P', 'H', 'P']
  | .pla => ['P', 'L', 'A']
  | .plp => ['P', 'L', 'P']
  | .brk => ['B', 'R', 'K']
  | .nop => ['N', 'O', 'P']
  | .illSlo => ['*', 'S', 'L', 'O']
  | .illRla => ['*', 'R', 'L', 'A']
  | .illSre => ['*', 'S', 'R', 'E']
  | .illRra => ['*', 'R', 'R', 'A']
  | .illSax => ['*', 'S', 'A', 'X']
  | .illLax => ['*', 'L', 'A', 'X']
  | .illLxa => ['*', 'L', 'X', 'A']
  | .illDcp => ['*', 'D', 'C', 'P']
  | .illIsc => ['*', 'I', 'S', 'C']
  | .illAnc => ['*', 'A', 'N', 'C']
  | .illAlr => ['*', 'A', 'L', 'R']
  | .illArr => ['*', 'A', 'R', 'R']
  | .illAne => ['*', 'A', 'N', 'E']
  | .illSbx => ['*', 'S', 'B', 'X']
  | .illUsbc => ['*', 'U', 'S', 'B', 'C']
  | .illSha => ['*', 'S', 'H', 'A']
  | .illShx => ['*', 'S', 'H', 'X']
  | .illShy => ['*', 'S', 'H', 'Y']
  | .illTas => ['*', 'T', 'A', 'S']
  | .illLas => ['*', 'L', 'A', 'S']
  | .illNop => ['*', 'N', 'O', 'P']
  | .illKil => ['*', 'K', 'I', 'L']

/-- A hexadecimal digit. -/
def hexDigit (d : BitVec 4) : Char := Char.ofNat (if d.toNat < 10 then 48 + d.toNat else 55 + d.toNat)

/-- `$nn`. -/
def hexByte (b : Byte) : List Char := ['$', hexDigit (highNibble b), hexDigit (lowNibble b)]

/-- `$nnnn`. -/
def hexWord (w : Word) : List Char := hexByte (highByte w) ++ (hexByte (lowByte w)).drop 1

/-- The operand forms of R100, for an instruction at address `o`; a branch shows its target. -/
def operandText (o : Word) : Operand → List Char
  | .implicit => []
  | .accumulator => [' ', 'A']
  | .immediate imm => [' ', '#'] ++ hexByte imm
  | .relative rel => ' ' :: hexWord (o + 2#16 + rel.signExtend 16)
  | .absolute addr => ' ' :: hexWord addr
  | .zeroPage zp => ' ' :: hexByte zp
  | .indirect ptr => [' ', '('] ++ hexWord ptr ++ [')']
  | .absoluteX base => ' ' :: hexWord base ++ [',', 'X']
  | .absoluteY base => ' ' :: hexWord base ++ [',', 'Y']
  | .zeroPageX zp => ' ' :: hexByte zp ++ [',', 'X']
  | .zeroPageY zp => ' ' :: hexByte zp ++ [',', 'Y']
  | .indexedIndirectX zp => [' ', '('] ++ hexByte zp ++ [',', 'X', ')']
  | .indirectIndexedY zp => [' ', '('] ++ hexByte zp ++ [')', ',', 'Y']

/-- The text of an instruction at address `o` (R100). -/
def disassemble (o : Word) (i : Instr) : List Char := mnemonicText i.mnemonic ++ operandText o i.operand

end Sys2Proof
end

