-- ==== Sys2Proof/Tests/Slice0.lean ====
section
/-! SUPPORT. Tests. The expected results are the spec's: the vectors of spec/95_test_vectors.md, the encodings of
spec/opcode_table.json, and the worked cases named at each theorem. After them, a witness for the hypotheses of every statement
of Certificates/Slice0/Obligations.lean that has some. -/

namespace Sys2Proof.Tests

open Sys2Proof.Machine

set_option maxRecDepth 8000

/-! ### Helpers -/

/-- A machine with the given bytes at the given address and the given cells, otherwise as after reset
(spec/95_test_vectors.md, Notation). -/
def boot (pc : Word) (bytes : List Byte) (cells : List (Word × Byte)) : State :=
  { State.reset with pc := pc, mem := place pc bytes (cells.foldl (fun m c => m.write c.1 c.2) []) }
where
  /-- The bytes at rising addresses, which wrap. -/
  place (pc : Word) : List Byte → Memory → Memory
    | [], m => m
    | b :: bs, m => place (pc + 1#16) bs (m.write pc b)

/-- OOPS_POLICY = AnyIndexed. -/
def anyIndexed : Params := { oopsPolicy := .anyIndexed, illegalCycles := [] }

/-- The bus writes of a step, in order. -/
def writesOf : List BusEvent → List (Word × Byte)
  | [] => []
  | .read _ _ :: l => writesOf l
  | .write a v :: l => (a, v) :: writesOf l

/-- The addresses of the bus reads of a step, in order. -/
def readsOf : List BusEvent → List Word
  | [] => []
  | .read a _ :: l => a :: readsOf l
  | .write _ _ :: l => readsOf l

/-- What the spec's vectors state of a step: A, X, Y, S, P, PC, the cycles, the writes, and whether an IRQ is left pending. -/
structure Expected where
  a : Byte
  x : Byte
  y : Byte
  sp : Byte
  p : Byte
  pc : Word
  cycles : Nat
  writes : List (Word × Byte)
  irq : Bool
  deriving DecidableEq, Repr

/-- The step ends as the vector says, with Break and Unused read from the flags themselves. -/
def Expected.holds (v : Expected) (s : State) : Bool :=
  match step s with
  | .next t =>
    decide (t.a = v.a) && decide (t.x = v.x) && decide (t.y = v.y) && decide (t.sp = v.sp) && decide (t.p = unpackP v.p) &&
      decide (t.pc = v.pc) && decide (t.stepCycles = v.cycles) && decide (writesOf t.busLog = v.writes) &&
      decide (t.pendingIRQ = v.irq) && !t.pendingNMI
  | .fault _ => false
  | .refused _ => false

/-! ### Well-formedness and rejection by name

The operands of Instr are typed by their widths and each constructor fixes its row, so there is no ill-formed term of Instr to
refuse (Laws/PerInstr.lean shows every constructor well formed); the terms that the checks refuse are byte strings and memories. -/

theorem test_empty_bytes_refused : bytesWellFormed [] = false ∧ decode [] = .rejected .noOpcode := by decide

/-- LDA Absolute with one operand byte. -/
theorem test_short_bytes_refused :
    bytesWellFormed [0xAD#8, 0x34#8] = false ∧ decode [0xAD#8, 0x34#8] = .rejected .missingOperand := by decide

/-- LDA Immediate without its operand byte; BRK without its padding byte. -/
theorem test_missing_byte_refused :
    decode [0xA9#8] = .rejected .missingOperand ∧ decode [0x00#8] = .rejected .missingOperand := by decide

/-- A one-byte instruction with a byte too many is not one instruction. -/
theorem test_long_bytes_refused : bytesWellFormed [0xEA#8, 0xEA#8] = false ∧ hasLength [0xEA#8, 0xEA#8] 1 = false := by decide

theorem test_unsorted_memory_refused : Memory.wf [(5, 1#8), (4, 1#8)] = false := by decide

theorem test_repeated_cell_refused : Memory.wf [(5, 1#8), (5, 2#8)] = false := by decide

theorem test_zero_cell_refused : Memory.wf [(5, 0#8)] = false := by decide

theorem test_cell_outside_refused : Memory.wf [(65536, 1#8)] = false := by decide

/-- Writing what an unlisted address reads as removes the cell. -/
theorem test_write_zero_removes :
    ((Memory.write [] 0xFFFF#16 0x7F#8).write 0x0000#16 0x01#8).write 0xFFFF#16 0x00#8 = [(0, 0x01#8)] := by decide

/-! ### Decoding: every row of spec/opcode_table.json, its opcode byte as the bits of its "encoding" column, the operand byte
0x34, or the operand bytes 0x34 0x12; one byte more stays -/

theorem test_decode_row_0 :
    decode [0b00000000#8, 0b00110100#8, 0xEE#8] = .ok (.brk 0x34#8) [0xEE#8] ∧
    decode [0b00000001#8, 0b00110100#8, 0xEE#8] = .ok (.oraIzx 0x34#8) [0xEE#8] ∧
    decode [0b00000010#8, 0xEE#8] = .ok .illKil02 [0xEE#8] ∧
    decode [0b00000011#8, 0b00110100#8, 0xEE#8] = .ok (.illSlo03 0x34#8) [0xEE#8] ∧
    decode [0b00000100#8, 0b00110100#8, 0xEE#8] = .ok (.illNop04 0x34#8) [0xEE#8] ∧
    decode [0b00000101#8, 0b00110100#8, 0xEE#8] = .ok (.oraZp 0x34#8) [0xEE#8] ∧
    decode [0b00000110#8, 0b00110100#8, 0xEE#8] = .ok (.aslZp 0x34#8) [0xEE#8] ∧
    decode [0b00000111#8, 0b00110100#8, 0xEE#8] = .ok (.illSlo07 0x34#8) [0xEE#8] ∧
    decode [0b00001000#8, 0xEE#8] = .ok .php [0xEE#8] ∧
    decode [0b00001001#8, 0b00110100#8, 0xEE#8] = .ok (.oraImm 0x34#8) [0xEE#8] ∧
    decode [0b00001010#8, 0xEE#8] = .ok .aslAcc [0xEE#8] ∧
    decode [0b00001011#8, 0b00110100#8, 0xEE#8] = .ok (.illAnc0B 0x34#8) [0xEE#8] ∧
    decode [0b00001100#8, 0b00110100#8, 0b00010010#8, 0xEE#8] = .ok (.illNop0C 0x1234#16) [0xEE#8] ∧
    decode [0b00001101#8, 0b00110100#8, 0b00010010#8, 0xEE#8] = .ok (.oraAbs 0x1234#16) [0xEE#8] ∧
    decode [0b00001110#8, 0b00110100#8, 0b00010010#8, 0xEE#8] = .ok (.aslAbs 0x1234#16) [0xEE#8] ∧
    decode [0b00001111#8, 0b00110100#8, 0b00010010#8, 0xEE#8] = .ok (.illSlo0F 0x1234#16) [0xEE#8] := by decide

theorem test_decode_row_1 :
    decode [0b00010000#8, 0b00110100#8, 0xEE#8] = .ok (.bpl 0x34#8) [0xEE#8] ∧
    decode [0b00010001#8, 0b00110100#8, 0xEE#8] = .ok (.oraIzy 0x34#8) [0xEE#8] ∧
    decode [0b00010010#8, 0xEE#8] = .ok .illKil12 [0xEE#8] ∧
    decode [0b00010011#8, 0b00110100#8, 0xEE#8] = .ok (.illSlo13 0x34#8) [0xEE#8] ∧
    decode [0b00010100#8, 0b00110100#8, 0xEE#8] = .ok (.illNop14 0x34#8) [0xEE#8] ∧
    decode [0b00010101#8, 0b00110100#8, 0xEE#8] = .ok (.oraZpx 0x34#8) [0xEE#8] ∧
    decode [0b00010110#8, 0b00110100#8, 0xEE#8] = .ok (.aslZpx 0x34#8) [0xEE#8] ∧
    decode [0b00010111#8, 0b00110100#8, 0xEE#8] = .ok (.illSlo17 0x34#8) [0xEE#8] ∧
    decode [0b00011000#8, 0xEE#8] = .ok .clc [0xEE#8] ∧
    decode [0b00011001#8, 0b00110100#8, 0b00010010#8, 0xEE#8] = .ok (.oraAby 0x1234#16) [0xEE#8] ∧
    decode [0b00011010#8, 0xEE#8] = .ok .illNop1A [0xEE#8] ∧
    decode [0b00011011#8, 0b00110100#8, 0b00010010#8, 0xEE#8] = .ok (.illSlo1B 0x1234#16) [0xEE#8] ∧
    decode [0b00011100#8, 0b00110100#8, 0b00010010#8, 0xEE#8] = .ok (.illNop1C 0x1234#16) [0xEE#8] ∧
    decode [0b00011101#8, 0b00110100#8, 0b00010010#8, 0xEE#8] = .ok (.oraAbx 0x1234#16) [0xEE#8] ∧
    decode [0b00011110#8, 0b00110100#8, 0b00010010#8, 0xEE#8] = .ok (.aslAbx 0x1234#16) [0xEE#8] ∧
    decode [0b00011111#8, 0b00110100#8, 0b00010010#8, 0xEE#8] = .ok (.illSlo1F 0x1234#16) [0xEE#8] := by decide

theorem test_decode_row_2 :
    decode [0b00100000#8, 0b00110100#8, 0b00010010#8, 0xEE#8] = .ok (.jsr 0x1234#16) [0xEE#8] ∧
    decode [0b00100001#8, 0b00110100#8, 0xEE#8] = .ok (.andIzx 0x34#8) [0xEE#8] ∧
    decode [0b00100010#8, 0xEE#8] = .ok .illKil22 [0xEE#8] ∧
    decode [0b00100011#8, 0b00110100#8, 0xEE#8] = .ok (.illRla23 0x34#8) [0xEE#8] ∧
    decode [0b00100100#8, 0b00110100#8, 0xEE#8] = .ok (.bitZp 0x34#8) [0xEE#8] ∧
    decode [0b00100101#8, 0b00110100#8, 0xEE#8] = .ok (.andZp 0x34#8) [0xEE#8] ∧
    decode [0b00100110#8, 0b00110100#8, 0xEE#8] = .ok (.rolZp 0x34#8) [0xEE#8] ∧
    decode [0b00100111#8, 0b00110100#8, 0xEE#8] = .ok (.illRla27 0x34#8) [0xEE#8] ∧
    decode [0b00101000#8, 0xEE#8] = .ok .plp [0xEE#8] ∧
    decode [0b00101001#8, 0b00110100#8, 0xEE#8] = .ok (.andImm 0x34#8) [0xEE#8] ∧
    decode [0b00101010#8, 0xEE#8] = .ok .rolAcc [0xEE#8] ∧
    decode [0b00101011#8, 0b00110100#8, 0xEE#8] = .ok (.illAnc2B 0x34#8) [0xEE#8] ∧
    decode [0b00101100#8, 0b00110100#8, 0b00010010#8, 0xEE#8] = .ok (.bitAbs 0x1234#16) [0xEE#8] ∧
    decode [0b00101101#8, 0b00110100#8, 0b00010010#8, 0xEE#8] = .ok (.andAbs 0x1234#16) [0xEE#8] ∧
    decode [0b00101110#8, 0b00110100#8, 0b00010010#8, 0xEE#8] = .ok (.rolAbs 0x1234#16) [0xEE#8] ∧
    decode [0b00101111#8, 0b00110100#8, 0b00010010#8, 0xEE#8] = .ok (.illRla2F 0x1234#16) [0xEE#8] := by decide

theorem test_decode_row_3 :
    decode [0b00110000#8, 0b00110100#8, 0xEE#8] = .ok (.bmi 0x34#8) [0xEE#8] ∧
    decode [0b00110001#8, 0b00110100#8, 0xEE#8] = .ok (.andIzy 0x34#8) [0xEE#8] ∧
    decode [0b00110010#8, 0xEE#8] = .ok .illKil32 [0xEE#8] ∧
    decode [0b00110011#8, 0b00110100#8, 0xEE#8] = .ok (.illRla33 0x34#8) [0xEE#8] ∧
    decode [0b00110100#8, 0b00110100#8, 0xEE#8] = .ok (.illNop34 0x34#8) [0xEE#8] ∧
    decode [0b00110101#8, 0b00110100#8, 0xEE#8] = .ok (.andZpx 0x34#8) [0xEE#8] ∧
    decode [0b00110110#8, 0b00110100#8, 0xEE#8] = .ok (.rolZpx 0x34#8) [0xEE#8] ∧
    decode [0b00110111#8, 0b00110100#8, 0xEE#8] = .ok (.illRla37 0x34#8) [0xEE#8] ∧
    decode [0b00111000#8, 0xEE#8] = .ok .sec [0xEE#8] ∧
    decode [0b00111001#8, 0b00110100#8, 0b00010010#8, 0xEE#8] = .ok (.andAby 0x1234#16) [0xEE#8] ∧
    decode [0b00111010#8, 0xEE#8] = .ok .illNop3A [0xEE#8] ∧
    decode [0b00111011#8, 0b00110100#8, 0b00010010#8, 0xEE#8] = .ok (.illRla3B 0x1234#16) [0xEE#8] ∧
    decode [0b00111100#8, 0b00110100#8, 0b00010010#8, 0xEE#8] = .ok (.illNop3C 0x1234#16) [0xEE#8] ∧
    decode [0b00111101#8, 0b00110100#8, 0b00010010#8, 0xEE#8] = .ok (.andAbx 0x1234#16) [0xEE#8] ∧
    decode [0b00111110#8, 0b00110100#8, 0b00010010#8, 0xEE#8] = .ok (.rolAbx 0x1234#16) [0xEE#8] ∧
    decode [0b00111111#8, 0b00110100#8, 0b00010010#8, 0xEE#8] = .ok (.illRla3F 0x1234#16) [0xEE#8] := by decide

theorem test_decode_row_4 :
    decode [0b01000000#8, 0xEE#8] = .ok .rti [0xEE#8] ∧
    decode [0b01000001#8, 0b00110100#8, 0xEE#8] = .ok (.eorIzx 0x34#8) [0xEE#8] ∧
    decode [0b01000010#8, 0xEE#8] = .ok .illKil42 [0xEE#8] ∧
    decode [0b01000011#8, 0b00110100#8, 0xEE#8] = .ok (.illSre43 0x34#8) [0xEE#8] ∧
    decode [0b01000100#8, 0b00110100#8, 0xEE#8] = .ok (.illNop44 0x34#8) [0xEE#8] ∧
    decode [0b01000101#8, 0b00110100#8, 0xEE#8] = .ok (.eorZp 0x34#8) [0xEE#8] ∧
    decode [0b01000110#8, 0b00110100#8, 0xEE#8] = .ok (.lsrZp 0x34#8) [0xEE#8] ∧
    decode [0b01000111#8, 0b00110100#8, 0xEE#8] = .ok (.illSre47 0x34#8) [0xEE#8] ∧
    decode [0b01001000#8, 0xEE#8] = .ok .pha [0xEE#8] ∧
    decode [0b01001001#8, 0b00110100#8, 0xEE#8] = .ok (.eorImm 0x34#8) [0xEE#8] ∧
    decode [0b01001010#8, 0xEE#8] = .ok .lsrAcc [0xEE#8] ∧
    decode [0b01001011#8, 0b00110100#8, 0xEE#8] = .ok (.illAlr4B 0x34#8) [0xEE#8] ∧
    decode [0b01001100#8, 0b00110100#8, 0b00010010#8, 0xEE#8] = .ok (.jmpAbs 0x1234#16) [0xEE#8] ∧
    decode [0b01001101#8, 0b00110100#8, 0b00010010#8, 0xEE#8] = .ok (.eorAbs 0x1234#16) [0xEE#8] ∧
    decode [0b01001110#8, 0b00110100#8, 0b00010010#8, 0xEE#8] = .ok (.lsrAbs 0x1234#16) [0xEE#8] ∧
    decode [0b01001111#8, 0b00110100#8, 0b00010010#8, 0xEE#8] = .ok (.illSre4F 0x1234#16) [0xEE#8] := by decide

theorem test_decode_row_5 :
    decode [0b01010000#8, 0b00110100#8, 0xEE#8] = .ok (.bvc 0x34#8) [0xEE#8] ∧
    decode [0b01010001#8, 0b00110100#8, 0xEE#8] = .ok (.eorIzy 0x34#8) [0xEE#8] ∧
    decode [0b01010010#8, 0xEE#8] = .ok .illKil52 [0xEE#8] ∧
    decode [0b01010011#8, 0b00110100#8, 0xEE#8] = .ok (.illSre53 0x34#8) [0xEE#8] ∧
    decode [0b01010100#8, 0b00110100#8, 0xEE#8] = .ok (.illNop54 0x34#8) [0xEE#8] ∧
    decode [0b01010101#8, 0b00110100#8, 0xEE#8] = .ok (.eorZpx 0x34#8) [0xEE#8] ∧
    decode [0b01010110#8, 0b00110100#8, 0xEE#8] = .ok (.lsrZpx 0x34#8) [0xEE#8] ∧
    decode [0b01010111#8, 0b00110100#8, 0xEE#8] = .ok (.illSre57 0x34#8) [0xEE#8] ∧
    decode [0b01011000#8, 0xEE#8] = .ok .cli [0xEE#8] ∧
    decode [0b01011001#8, 0b00110100#8, 0b00010010#8, 0xEE#8] = .ok (.eorAby 0x1234#16) [0xEE#8] ∧
    decode [0b01011010#8, 0xEE#8] = .ok .illNop5A [0xEE#8] ∧
    decode [0b01011011#8, 0b00110100#8, 0b00010010#8, 0xEE#8] = .ok (.illSre5B 0x1234#16) [0xEE#8] ∧
    decode [0b01011100#8, 0b00110100#8, 0b00010010#8, 0xEE#8] = .ok (.illNop5C 0x1234#16) [0xEE#8] ∧
    decode [0b01011101#8, 0b00110100#8, 0b00010010#8, 0xEE#8] = .ok (.eorAbx 0x1234#16) [0xEE#8] ∧
    decode [0b01011110#8, 0b00110100#8, 0b00010010#8, 0xEE#8] = .ok (.lsrAbx 0x1234#16) [0xEE#8] ∧
    decode [0b01011111#8, 0b00110100#8, 0b00010010#8, 0xEE#8] = .ok (.illSre5F 0x1234#16) [0xEE#8] := by decide

theorem test_decode_row_6 :
    decode [0b01100000#8, 0xEE#8] = .ok .rts [0xEE#8] ∧
    decode [0b01100001#8, 0b00110100#8, 0xEE#8] = .ok (.adcIzx 0x34#8) [0xEE#8] ∧
    decode [0b01100010#8, 0xEE#8] = .ok .illKil62 [0xEE#8] ∧
    decode [0b01100011#8, 0b00110100#8, 0xEE#8] = .ok (.illRra63 0x34#8) [0xEE#8] ∧
    decode [0b01100100#8, 0b00110100#8, 0xEE#8] = .ok (.illNop64 0x34#8) [0xEE#8] ∧
    decode [0b01100101#8, 0b00110100#8, 0xEE#8] = .ok (.adcZp 0x34#8) [0xEE#8] ∧
    decode [0b01100110#8, 0b00110100#8, 0xEE#8] = .ok (.rorZp 0x34#8) [0xEE#8] ∧
    decode [0b01100111#8, 0b00110100#8, 0xEE#8] = .ok (.illRra67 0x34#8) [0xEE#8] ∧
    decode [0b01101000#8, 0xEE#8] = .ok .pla [0xEE#8] ∧
    decode [0b01101001#8, 0b00110100#8, 0xEE#8] = .ok (.adcImm 0x34#8) [0xEE#8] ∧
    decode [0b01101010#8, 0xEE#8] = .ok .rorAcc [0xEE#8] ∧
    decode [0b01101011#8, 0b00110100#8, 0xEE#8] = .ok (.illArr6B 0x34#8) [0xEE#8] ∧
    decode [0b01101100#8, 0b00110100#8, 0b00010010#8, 0xEE#8] = .ok (.jmpInd 0x1234#16) [0xEE#8] ∧
    decode [0b01101101#8, 0b00110100#8, 0b00010010#8, 0xEE#8] = .ok (.adcAbs 0x1234#16) [0xEE#8] ∧
    decode [0b01101110#8, 0b00110100#8, 0b00010010#8, 0xEE#8] = .ok (.rorAbs 0x1234#16) [0xEE#8] ∧
    decode [0b01101111#8, 0b00110100#8, 0b00010010#8, 0xEE#8] = .ok (.illRra6F 0x1234#16) [0xEE#8] := by decide

theorem test_decode_row_7 :
    decode [0b01110000#8, 0b00110100#8, 0xEE#8] = .ok (.bvs 0x34#8) [0xEE#8] ∧
    decode [0b01110001#8, 0b00110100#8, 0xEE#8] = .ok (.adcIzy 0x34#8) [0xEE#8] ∧
    decode [0b01110010#8, 0xEE#8] = .ok .illKil72 [0xEE#8] ∧
    decode [0b01110011#8, 0b00110100#8, 0xEE#8] = .ok (.illRra73 0x34#8) [0xEE#8] ∧
    decode [0b01110100#8, 0b00110100#8, 0xEE#8] = .ok (.illNop74 0x34#8) [0xEE#8] ∧
    decode [0b01110101#8, 0b00110100#8, 0xEE#8] = .ok (.adcZpx 0x34#8) [0xEE#8] ∧
    decode [0b01110110#8, 0b00110100#8, 0xEE#8] = .ok (.rorZpx 0x34#8) [0xEE#8] ∧
    decode [0b01110111#8, 0b00110100#8, 0xEE#8] = .ok (.illRra77 0x34#8) [0xEE#8] ∧
    decode [0b01111000#8, 0xEE#8] = .ok .sei [0xEE#8] ∧
    decode [0b01111001#8, 0b00110100#8, 0b00010010#8, 0xEE#8] = .ok (.adcAby 0x1234#16) [0xEE#8] ∧
    decode [0b01111010#8, 0xEE#8] = .ok .illNop7A [0xEE#8] ∧
    decode [0b01111011#8, 0b00110100#8, 0b00010010#8, 0xEE#8] = .ok (.illRra7B 0x1234#16) [0xEE#8] ∧
    decode [0b01111100#8, 0b00110100#8, 0b00010010#8, 0xEE#8] = .ok (.illNop7C 0x1234#16) [0xEE#8] ∧
    decode [0b01111101#8, 0b00110100#8, 0b00010010#8, 0xEE#8] = .ok (.adcAbx 0x1234#16) [0xEE#8] ∧
    decode [0b01111110#8, 0b00110100#8, 0b00010010#8, 0xEE#8] = .ok (.rorAbx 0x1234#16) [0xEE#8] ∧
    decode [0b01111111#8, 0b00110100#8, 0b00010010#8, 0xEE#8] = .ok (.illRra7F 0x1234#16) [0xEE#8] := by decide

theorem test_decode_row_8 :
    decode [0b10000000#8, 0b00110100#8, 0xEE#8] = .ok (.illNop80 0x34#8) [0xEE#8] ∧
    decode [0b10000001#8, 0b00110100#8, 0xEE#8] = .ok (.staIzx 0x34#8) [0xEE#8] ∧
    decode [0b10000010#8, 0b00110100#8, 0xEE#8] = .ok (.illNop82 0x34#8) [0xEE#8] ∧
    decode [0b10000011#8, 0b00110100#8, 0xEE#8] = .ok (.illSax83 0x34#8) [0xEE#8] ∧
    decode [0b10000100#8, 0b00110100#8, 0xEE#8] = .ok (.styZp 0x34#8) [0xEE#8] ∧
    decode [0b10000101#8, 0b00110100#8, 0xEE#8] = .ok (.staZp 0x34#8) [0xEE#8] ∧
    decode [0b10000110#8, 0b00110100#8, 0xEE#8] = .ok (.stxZp 0x34#8) [0xEE#8] ∧
    decode [0b10000111#8, 0b00110100#8, 0xEE#8] = .ok (.illSax87 0x34#8) [0xEE#8] ∧
    decode [0b10001000#8, 0xEE#8] = .ok .dey [0xEE#8] ∧
    decode [0b10001001#8, 0b00110100#8, 0xEE#8] = .ok (.illNop89 0x34#8) [0xEE#8] ∧
    decode [0b10001010#8, 0xEE#8] = .ok .txa [0xEE#8] ∧
    decode [0b10001011#8, 0b00110100#8, 0xEE#8] = .ok (.illAne8B 0x34#8) [0xEE#8] ∧
    decode [0b10001100#8, 0b00110100#8, 0b00010010#8, 0xEE#8] = .ok (.styAbs 0x1234#16) [0xEE#8] ∧
    decode [0b10001101#8, 0b00110100#8, 0b00010010#8, 0xEE#8] = .ok (.staAbs 0x1234#16) [0xEE#8] ∧
    decode [0b10001110#8, 0b00110100#8, 0b00010010#8, 0xEE#8] = .ok (.stxAbs 0x1234#16) [0xEE#8] ∧
    decode [0b10001111#8, 0b00110100#8, 0b00010010#8, 0xEE#8] = .ok (.illSax8F 0x1234#16) [0xEE#8] := by decide

theorem test_decode_row_9 :
    decode [0b10010000#8, 0b00110100#8, 0xEE#8] = .ok (.bcc 0x34#8) [0xEE#8] ∧
    decode [0b10010001#8, 0b00110100#8, 0xEE#8] = .ok (.staIzy 0x34#8) [0xEE#8] ∧
    decode [0b10010010#8, 0xEE#8] = .ok .illKil92 [0xEE#8] ∧
    decode [0b10010011#8, 0b00110100#8, 0xEE#8] = .ok (.illSha93 0x34#8) [0xEE#8] ∧
    decode [0b10010100#8, 0b00110100#8, 0xEE#8] = .ok (.styZpx 0x34#8) [0xEE#8] ∧
    decode [0b10010101#8, 0b00110100#8, 0xEE#8] = .ok (.staZpx 0x34#8) [0xEE#8] ∧
    decode [0b10010110#8, 0b00110100#8, 0xEE#8] = .ok (.stxZpy 0x34#8) [0xEE#8] ∧
    decode [0b10010111#8, 0b00110100#8, 0xEE#8] = .ok (.illSax97 0x34#8) [0xEE#8] ∧
    decode [0b10011000#8, 0xEE#8] = .ok .tya [0xEE#8] ∧
    decode [0b10011001#8, 0b00110100#8, 0b00010010#8, 0xEE#8] = .ok (.staAby 0x1234#16) [0xEE#8] ∧
    decode [0b10011010#8, 0xEE#8] = .ok .txs [0xEE#8] ∧
    decode [0b10011011#8, 0b00110100#8, 0b00010010#8, 0xEE#8] = .ok (.illTas9B 0x1234#16) [0xEE#8] ∧
    decode [0b10011100#8, 0b00110100#8, 0b00010010#8, 0xEE#8] = .ok (.illShy9C 0x1234#16) [0xEE#8] ∧
    decode [0b10011101#8, 0b00110100#8, 0b00010010#8, 0xEE#8] = .ok (.staAbx 0x1234#16) [0xEE#8] ∧
    decode [0b10011110#8, 0b00110100#8, 0b00010010#8, 0xEE#8] = .ok (.illShx9E 0x1234#16) [0xEE#8] ∧
    decode [0b10011111#8, 0b00110100#8, 0b00010010#8, 0xEE#8] = .ok (.illSha9F 0x1234#16) [0xEE#8] := by decide

theorem test_decode_row_A :
    decode [0b10100000#8, 0b00110100#8, 0xEE#8] = .ok (.ldyImm 0x34#8) [0xEE#8] ∧
    decode [0b10100001#8, 0b00110100#8, 0xEE#8] = .ok (.ldaIzx 0x34#8) [0xEE#8] ∧
    decode [0b10100010#8, 0b00110100#8, 0xEE#8] = .ok (.ldxImm 0x34#8) [0xEE#8] ∧
    decode [0b10100011#8, 0b00110100#8, 0xEE#8] = .ok (.illLaxA3 0x34#8) [0xEE#8] ∧
    decode [0b10100100#8, 0b00110100#8, 0xEE#8] = .ok (.ldyZp 0x34#8) [0xEE#8] ∧
    decode [0b10100101#8, 0b00110100#8, 0xEE#8] = .ok (.ldaZp 0x34#8) [0xEE#8] ∧
    decode [0b10100110#8, 0b00110100#8, 0xEE#8] = .ok (.ldxZp 0x34#8) [0xEE#8] ∧
    decode [0b10100111#8, 0b00110100#8, 0xEE#8] = .ok (.illLaxA7 0x34#8) [0xEE#8] ∧
    decode [0b10101000#8, 0xEE#8] = .ok .tay [0xEE#8] ∧
    decode [0b10101001#8, 0b00110100#8, 0xEE#8] = .ok (.ldaImm 0x34#8) [0xEE#8] ∧
    decode [0b10101010#8, 0xEE#8] = .ok .tax [0xEE#8] ∧
    decode [0b10101011#8, 0b00110100#8, 0xEE#8] = .ok (.illLxaAB 0x34#8) [0xEE#8] ∧
    decode [0b10101100#8, 0b00110100#8, 0b00010010#8, 0xEE#8] = .ok (.ldyAbs 0x1234#16) [0xEE#8] ∧
    decode [0b10101101#8, 0b00110100#8, 0b00010010#8, 0xEE#8] = .ok (.ldaAbs 0x1234#16) [0xEE#8] ∧
    decode [0b10101110#8, 0b00110100#8, 0b00010010#8, 0xEE#8] = .ok (.ldxAbs 0x1234#16) [0xEE#8] ∧
    decode [0b10101111#8, 0b00110100#8, 0b00010010#8, 0xEE#8] = .ok (.illLaxAF 0x1234#16) [0xEE#8] := by decide

theorem test_decode_row_B :
    decode [0b10110000#8, 0b00110100#8, 0xEE#8] = .ok (.bcs 0x34#8) [0xEE#8] ∧
    decode [0b10110001#8, 0b00110100#8, 0xEE#8] = .ok (.ldaIzy 0x34#8) [0xEE#8] ∧
    decode [0b10110010#8, 0xEE#8] = .ok .illKilB2 [0xEE#8] ∧
    decode [0b10110011#8, 0b00110100#8, 0xEE#8] = .ok (.illLaxB3 0x34#8) [0xEE#8] ∧
    decode [0b10110100#8, 0b00110100#8, 0xEE#8] = .ok (.ldyZpx 0x34#8) [0xEE#8] ∧
    decode [0b10110101#8, 0b00110100#8, 0xEE#8] = .ok (.ldaZpx 0x34#8) [0xEE#8] ∧
    decode [0b10110110#8, 0b00110100#8, 0xEE#8] = .ok (.ldxZpy 0x34#8) [0xEE#8] ∧
    decode [0b10110111#8, 0b00110100#8, 0xEE#8] = .ok (.illLaxB7 0x34#8) [0xEE#8] ∧
    decode [0b10111000#8, 0xEE#8] = .ok .clv [0xEE#8] ∧
    decode [0b10111001#8, 0b00110100#8, 0b00010010#8, 0xEE#8] = .ok (.ldaAby 0x1234#16) [0xEE#8] ∧
    decode [0b10111010#8, 0xEE#8] = .ok .tsx [0xEE#8] ∧
    decode [0b10111011#8, 0b00110100#8, 0b00010010#8, 0xEE#8] = .ok (.illLasBB 0x1234#16) [0xEE#8] ∧
    decode [0b10111100#8, 0b00110100#8, 0b00010010#8, 0xEE#8] = .ok (.ldyAbx 0x1234#16) [0xEE#8] ∧
    decode [0b10111101#8, 0b00110100#8, 0b00010010#8, 0xEE#8] = .ok (.ldaAbx 0x1234#16) [0xEE#8] ∧
    decode [0b10111110#8, 0b00110100#8, 0b00010010#8, 0xEE#8] = .ok (.ldxAby 0x1234#16) [0xEE#8] ∧
    decode [0b10111111#8, 0b00110100#8, 0b00010010#8, 0xEE#8] = .ok (.illLaxBF 0x1234#16) [0xEE#8] := by decide

theorem test_decode_row_C :
    decode [0b11000000#8, 0b00110100#8, 0xEE#8] = .ok (.cpyImm 0x34#8) [0xEE#8] ∧
    decode [0b11000001#8, 0b00110100#8, 0xEE#8] = .ok (.cmpIzx 0x34#8) [0xEE#8] ∧
    decode [0b11000010#8, 0b00110100#8, 0xEE#8] = .ok (.illNopC2 0x34#8) [0xEE#8] ∧
    decode [0b11000011#8, 0b00110100#8, 0xEE#8] = .ok (.illDcpC3 0x34#8) [0xEE#8] ∧
    decode [0b11000100#8, 0b00110100#8, 0xEE#8] = .ok (.cpyZp 0x34#8) [0xEE#8] ∧
    decode [0b11000101#8, 0b00110100#8, 0xEE#8] = .ok (.cmpZp 0x34#8) [0xEE#8] ∧
    decode [0b11000110#8, 0b00110100#8, 0xEE#8] = .ok (.decZp 0x34#8) [0xEE#8] ∧
    decode [0b11000111#8, 0b00110100#8, 0xEE#8] = .ok (.illDcpC7 0x34#8) [0xEE#8] ∧
    decode [0b11001000#8, 0xEE#8] = .ok .iny [0xEE#8] ∧
    decode [0b11001001#8, 0b00110100#8, 0xEE#8] = .ok (.cmpImm 0x34#8) [0xEE#8] ∧
    decode [0b11001010#8, 0xEE#8] = .ok .dex [0xEE#8] ∧
    decode [0b11001011#8, 0b00110100#8, 0xEE#8] = .ok (.illSbxCB 0x34#8) [0xEE#8] ∧
    decode [0b11001100#8, 0b00110100#8, 0b00010010#8, 0xEE#8] = .ok (.cpyAbs 0x1234#16) [0xEE#8] ∧
    decode [0b11001101#8, 0b00110100#8, 0b00010010#8, 0xEE#8] = .ok (.cmpAbs 0x1234#16) [0xEE#8] ∧
    decode [0b11001110#8, 0b00110100#8, 0b00010010#8, 0xEE#8] = .ok (.decAbs 0x1234#16) [0xEE#8] ∧
    decode [0b11001111#8, 0b00110100#8, 0b00010010#8, 0xEE#8] = .ok (.illDcpCF 0x1234#16) [0xEE#8] := by decide

theorem test_decode_row_D :
    decode [0b11010000#8, 0b00110100#8, 0xEE#8] = .ok (.bne 0x34#8) [0xEE#8] ∧
    decode [0b11010001#8, 0b00110100#8, 0xEE#8] = .ok (.cmpIzy 0x34#8) [0xEE#8] ∧
    decode [0b11010010#8, 0xEE#8] = .ok .illKilD2 [0xEE#8] ∧
    decode [0b11010011#8, 0b00110100#8, 0xEE#8] = .ok (.illDcpD3 0x34#8) [0xEE#8] ∧
    decode [0b11010100#8, 0b00110100#8, 0xEE#8] = .ok (.illNopD4 0x34#8) [0xEE#8] ∧
    decode [0b11010101#8, 0b00110100#8, 0xEE#8] = .ok (.cmpZpx 0x34#8) [0xEE#8] ∧
    decode [0b11010110#8, 0b00110100#8, 0xEE#8] = .ok (.decZpx 0x34#8) [0xEE#8] ∧
    decode [0b11010111#8, 0b00110100#8, 0xEE#8] = .ok (.illDcpD7 0x34#8) [0xEE#8] ∧
    decode [0b11011000#8, 0xEE#8] = .ok .cld [0xEE#8] ∧
    decode [0b11011001#8, 0b00110100#8, 0b00010010#8, 0xEE#8] = .ok (.cmpAby 0x1234#16) [0xEE#8] ∧
    decode [0b11011010#8, 0xEE#8] = .ok .illNopDA [0xEE#8] ∧
    decode [0b11011011#8, 0b00110100#8, 0b00010010#8, 0xEE#8] = .ok (.illDcpDB 0x1234#16) [0xEE#8] ∧
    decode [0b11011100#8, 0b00110100#8, 0b00010010#8, 0xEE#8] = .ok (.illNopDC 0x1234#16) [0xEE#8] ∧
    decode [0b11011101#8, 0b00110100#8, 0b00010010#8, 0xEE#8] = .ok (.cmpAbx 0x1234#16) [0xEE#8] ∧
    decode [0b11011110#8, 0b00110100#8, 0b00010010#8, 0xEE#8] = .ok (.decAbx 0x1234#16) [0xEE#8] ∧
    decode [0b11011111#8, 0b00110100#8, 0b00010010#8, 0xEE#8] = .ok (.illDcpDF 0x1234#16) [0xEE#8] := by decide

theorem test_decode_row_E :
    decode [0b11100000#8, 0b00110100#8, 0xEE#8] = .ok (.cpxImm 0x34#8) [0xEE#8] ∧
    decode [0b11100001#8, 0b00110100#8, 0xEE#8] = .ok (.sbcIzx 0x34#8) [0xEE#8] ∧
    decode [0b11100010#8, 0b00110100#8, 0xEE#8] = .ok (.illNopE2 0x34#8) [0xEE#8] ∧
    decode [0b11100011#8, 0b00110100#8, 0xEE#8] = .ok (.illIscE3 0x34#8) [0xEE#8] ∧
    decode [0b11100100#8, 0b00110100#8, 0xEE#8] = .ok (.cpxZp 0x34#8) [0xEE#8] ∧
    decode [0b11100101#8, 0b00110100#8, 0xEE#8] = .ok (.sbcZp 0x34#8) [0xEE#8] ∧
    decode [0b11100110#8, 0b00110100#8, 0xEE#8] = .ok (.incZp 0x34#8) [0xEE#8] ∧
    decode [0b11100111#8, 0b00110100#8, 0xEE#8] = .ok (.illIscE7 0x34#8) [0xEE#8] ∧
    decode [0b11101000#8, 0xEE#8] = .ok .inx [0xEE#8] ∧
    decode [0b11101001#8, 0b00110100#8, 0xEE#8] = .ok (.sbcImm 0x34#8) [0xEE#8] ∧
    decode [0b11101010#8, 0xEE#8] = .ok .nop [0xEE#8] ∧
    decode [0b11101011#8, 0b00110100#8, 0xEE#8] = .ok (.illUsbcEB 0x34#8) [0xEE#8] ∧
    decode [0b11101100#8, 0b00110100#8, 0b00010010#8, 0xEE#8] = .ok (.cpxAbs 0x1234#16) [0xEE#8] ∧
    decode [0b11101101#8, 0b00110100#8, 0b00010010#8, 0xEE#8] = .ok (.sbcAbs 0x1234#16) [0xEE#8] ∧
    decode [0b11101110#8, 0b00110100#8, 0b00010010#8, 0xEE#8] = .ok (.incAbs 0x1234#16) [0xEE#8] ∧
    decode [0b11101111#8, 0b00110100#8, 0b00010010#8, 0xEE#8] = .ok (.illIscEF 0x1234#16) [0xEE#8] := by decide

theorem test_decode_row_F :
    decode [0b11110000#8, 0b00110100#8, 0xEE#8] = .ok (.beq 0x34#8) [0xEE#8] ∧
    decode [0b11110001#8, 0b00110100#8, 0xEE#8] = .ok (.sbcIzy 0x34#8) [0xEE#8] ∧
    decode [0b11110010#8, 0xEE#8] = .ok .illKilF2 [0xEE#8] ∧
    decode [0b11110011#8, 0b00110100#8, 0xEE#8] = .ok (.illIscF3 0x34#8) [0xEE#8] ∧
    decode [0b11110100#8, 0b00110100#8, 0xEE#8] = .ok (.illNopF4 0x34#8) [0xEE#8] ∧
    decode [0b11110101#8, 0b00110100#8, 0xEE#8] = .ok (.sbcZpx 0x34#8) [0xEE#8] ∧
    decode [0b11110110#8, 0b00110100#8, 0xEE#8] = .ok (.incZpx 0x34#8) [0xEE#8] ∧
    decode [0b11110111#8, 0b00110100#8, 0xEE#8] = .ok (.illIscF7 0x34#8) [0xEE#8] ∧
    decode [0b11111000#8, 0xEE#8] = .ok .sed [0xEE#8] ∧
    decode [0b11111001#8, 0b00110100#8, 0b00010010#8, 0xEE#8] = .ok (.sbcAby 0x1234#16) [0xEE#8] ∧
    decode [0b11111010#8, 0xEE#8] = .ok .illNopFA [0xEE#8] ∧
    decode [0b11111011#8, 0b00110100#8, 0b00010010#8, 0xEE#8] = .ok (.illIscFB 0x1234#16) [0xEE#8] ∧
    decode [0b11111100#8, 0b00110100#8, 0b00010010#8, 0xEE#8] = .ok (.illNopFC 0x1234#16) [0xEE#8] ∧
    decode [0b11111101#8, 0b00110100#8, 0b00010010#8, 0xEE#8] = .ok (.sbcAbx 0x1234#16) [0xEE#8] ∧
    decode [0b11111110#8, 0b00110100#8, 0b00010010#8, 0xEE#8] = .ok (.incAbx 0x1234#16) [0xEE#8] ∧
    decode [0b11111111#8, 0b00110100#8, 0b00010010#8, 0xEE#8] = .ok (.illIscFF 0x1234#16) [0xEE#8] := by decide

/-! ### Vectors of spec/95_test_vectors.md, one step each, under their own names -/

/-- AM17, LDA #$00: rule R124 (operand byte at 0x0000, PC wraps to 0x0001). -/
theorem test_AM17 :
    (⟨0x00#8, 0x00#8, 0x00#8, 0xFD#8, 0x22#8, 0x0001#16, 2, [], false⟩ : Expected).holds
      (boot 0xFFFF#16 [0xA9#8] []) = true := by decide

/-- LD1, LDA #$80: rule R223. -/
theorem test_LD1 :
    (⟨0x80#8, 0x00#8, 0x00#8, 0xFD#8, 0xA0#8, 0x8002#16, 2, [], false⟩ : Expected).holds
      (boot 0x8000#16 [0xA9#8, 0x80#8] []) = true := by decide

/-- AM3, LDA $80,X: rule R131 (wraps in page 0). -/
theorem test_AM3 :
    (⟨0x33#8, 0x90#8, 0x00#8, 0xFD#8, 0x20#8, 0x8002#16, 4, [], false⟩ : Expected).holds
      { boot 0x8000#16 [0xB5#8, 0x80#8] [(0x0010#16, 0x33#8)] with x := 0x90#8 } = true := by decide

/-- AM4, LDX $FF,Y: rule R132. -/
theorem test_AM4 :
    (⟨0x00#8, 0x44#8, 0x01#8, 0xFD#8, 0x20#8, 0x8002#16, 4, [], false⟩ : Expected).holds
      { boot 0x8000#16 [0xB6#8, 0xFF#8] [(0x0000#16, 0x44#8)] with y := 0x01#8 } = true := by decide

/-- AM6, LDA $20F0,X: rules R129, R295 (read class, crossed). -/
theorem test_AM6 :
    (⟨0x99#8, 0x20#8, 0x00#8, 0xFD#8, 0xA0#8, 0x8003#16, 5, [], false⟩ : Expected).holds
      { boot 0x8000#16 [0xBD#8, 0xF0#8, 0x20#8] [(0x2110#16, 0x99#8)] with x := 0x20#8 } = true := by decide

/-- AM14, LDA $FFFF,X: rule R129 (wraps to 0x0000, a page change). -/
theorem test_AM14 :
    (⟨0x08#8, 0x01#8, 0x00#8, 0xFD#8, 0x20#8, 0x8003#16, 5, [], false⟩ : Expected).holds
      { boot 0x8000#16 [0xBD#8, 0xFF#8, 0xFF#8] [(0x0000#16, 0x08#8)] with x := 0x01#8 } = true := by decide

/-- AM8, STA $20F0,X: rules R129, R226, R295 (store: no oops under ReadClass). -/
theorem test_AM8 :
    (⟨0x5A#8, 0x20#8, 0x00#8, 0xFD#8, 0x20#8, 0x8003#16, 5, [(0x2110#16, 0x5A#8)], false⟩ : Expected).holds
      { boot 0x8000#16 [0x9D#8, 0xF0#8, 0x20#8] [] with a := 0x5A#8, x := 0x20#8 } = true := by decide

/-- AM9, STA $20F0,X: as AM8 with OOPS_POLICY = AnyIndexed. -/
theorem test_AM9 :
    (⟨0x5A#8, 0x20#8, 0x00#8, 0xFD#8, 0x20#8, 0x8003#16, 6, [(0x2110#16, 0x5A#8)], false⟩ : Expected).holds
      { boot 0x8000#16 [0x9D#8, 0xF0#8, 0x20#8] [] with a := 0x5A#8, x := 0x20#8, params := anyIndexed } = true := by decide

/-- AM11, LDA ($FF,X): rule R133 (pointer high byte from 0x0000). -/
theorem test_AM11 :
    (⟨0x12#8, 0x00#8, 0x00#8, 0xFD#8, 0x20#8, 0x8002#16, 6, [], false⟩ : Expected).holds
      (boot 0x8000#16 [0xA1#8, 0xFF#8] [(0x0000#16, 0x40#8), (0x00FF#16, 0x00#8), (0x4000#16, 0x12#8)]) = true := by decide

/-- AM12, LDA ($20),Y: rules R134, R295 (crossed). -/
theorem test_AM12 :
    (⟨0x80#8, 0x00#8, 0x20#8, 0xFD#8, 0xA0#8, 0x8002#16, 6, [], false⟩ : Expected).holds
      { boot 0x8000#16 [0xB1#8, 0x20#8] [(0x0020#16, 0xF0#8), (0x0021#16, 0x30#8), (0x3110#16, 0x80#8)] with y := 0x20#8 } = true := by decide

/-- AM13, LDA ($FF),Y: rule R134, D6 (pointer high byte from 0x0000). -/
theorem test_AM13 :
    (⟨0x21#8, 0x00#8, 0x01#8, 0xFD#8, 0x20#8, 0x8002#16, 5, [], false⟩ : Expected).holds
      { boot 0x8000#16 [0xB1#8, 0xFF#8] [(0x0000#16, 0x50#8), (0x00FF#16, 0x10#8), (0x5011#16, 0x21#8)] with y := 0x01#8 } = true := by decide

/-- JR1, JMP $C000: rule R200. -/
theorem test_JR1 :
    (⟨0x00#8, 0x00#8, 0x00#8, 0xFD#8, 0x20#8, 0xC000#16, 3, [], false⟩ : Expected).holds
      (boot 0x8000#16 [0x4C#8, 0x00#8, 0xC0#8] []) = true := by decide

/-- JR2, JMP ($30FF): rule R200 (page-wrap bug). -/
theorem test_JR2 :
    (⟨0x00#8, 0x00#8, 0x00#8, 0xFD#8, 0x20#8, 0x8040#16, 5, [], false⟩ : Expected).holds
      (boot 0x8000#16 [0x6C#8, 0xFF#8, 0x30#8] [(0x3000#16, 0x80#8), (0x30FF#16, 0x40#8), (0x3100#16, 0x55#8)]) = true := by decide

/-- LS2, AND #$C0: rule R151 (N from bit 7). -/
theorem test_LS2 :
    (⟨0xC0#8, 0x00#8, 0x00#8, 0xFD#8, 0xA0#8, 0x8002#16, 2, [], false⟩ : Expected).holds
      { boot 0x8000#16 [0x29#8, 0xC0#8] [] with a := 0xF0#8 } = true := by decide

/-- LS3, ORA #$01: rule R152. -/
theorem test_LS3 :
    (⟨0x81#8, 0x00#8, 0x00#8, 0xFD#8, 0xA0#8, 0x8002#16, 2, [], false⟩ : Expected).holds
      { boot 0x8000#16 [0x09#8, 0x01#8] [] with a := 0x80#8 } = true := by decide

/-- LS4, EOR #$FF: rule R153. -/
theorem test_LS4 :
    (⟨0x00#8, 0x00#8, 0x00#8, 0xFD#8, 0x22#8, 0x8002#16, 2, [], false⟩ : Expected).holds
      { boot 0x8000#16 [0x49#8, 0xFF#8] [] with a := 0xFF#8 } = true := by decide

/-- LS6, ASL A: rule R154 (C out, Z). -/
theorem test_LS6 :
    (⟨0x00#8, 0x00#8, 0x00#8, 0xFD#8, 0x23#8, 0x8001#16, 2, [], false⟩ : Expected).holds
      { boot 0x8000#16 [0x0A#8] [] with a := 0x80#8 } = true := by decide

/-- LS8, ASL $20F0,X: rules R154, R295 (RMW: no oops). -/
theorem test_LS8 :
    (⟨0x00#8, 0x20#8, 0x00#8, 0xFD#8, 0x20#8, 0x8003#16, 7, [(0x2110#16, 0x02#8)], false⟩ : Expected).holds
      { boot 0x8000#16 [0x1E#8, 0xF0#8, 0x20#8] [(0x2110#16, 0x01#8)] with x := 0x20#8 } = true := by decide

/-- EN4, ASL $20F0,X: rule R295 (AnyIndexed, crossed: 7 + 1). -/
theorem test_EN4 :
    (⟨0x00#8, 0x20#8, 0x00#8, 0xFD#8, 0x22#8, 0x8003#16, 8, [(0x2110#16, 0x00#8)], false⟩ : Expected).holds
      { boot 0x8000#16 [0x1E#8, 0xF0#8, 0x20#8] [] with x := 0x20#8, params := anyIndexed } = true := by decide

/-- LS9, LSR A: rule R155 (C out, Z). -/
theorem test_LS9 :
    (⟨0x00#8, 0x00#8, 0x00#8, 0xFD#8, 0x23#8, 0x8001#16, 2, [], false⟩ : Expected).holds
      { boot 0x8000#16 [0x4A#8] [] with a := 0x01#8 } = true := by decide

/-- LS10, LSR $10: rule R155 (N always 0). -/
theorem test_LS10 :
    (⟨0x00#8, 0x00#8, 0x00#8, 0xFD#8, 0x21#8, 0x8002#16, 5, [(0x0010#16, 0x7F#8)], false⟩ : Expected).holds
      (boot 0x8000#16 [0x46#8, 0x10#8] [(0x0010#16, 0xFF#8)]) = true := by decide

/-- LS12, ROL A: rule R156 (C out, Z). -/
theorem test_LS12 :
    (⟨0x00#8, 0x00#8, 0x00#8, 0xFD#8, 0x23#8, 0x8001#16, 2, [], false⟩ : Expected).holds
      { boot 0x8000#16 [0x2A#8] [] with a := 0x80#8, p := unpackP 0x20#8 } = true := by decide

/-- LS13, ROL $10,X: rule R156. -/
theorem test_LS13 :
    (⟨0x00#8, 0x01#8, 0x00#8, 0xFD#8, 0x21#8, 0x8002#16, 6, [(0x0011#16, 0x01#8)], false⟩ : Expected).holds
      { boot 0x8000#16 [0x36#8, 0x10#8] [(0x0011#16, 0x80#8)] with x := 0x01#8, p := unpackP 0x21#8 } = true := by decide

/-- LS14, ROR A: rule R157 (C in to bit 7). -/
theorem test_LS14 :
    (⟨0x80#8, 0x00#8, 0x00#8, 0xFD#8, 0xA1#8, 0x8001#16, 2, [], false⟩ : Expected).holds
      { boot 0x8000#16 [0x6A#8] [] with a := 0x01#8, p := unpackP 0x21#8 } = true := by decide

/-- LS16, ROR $0300: rule R157. -/
theorem test_LS16 :
    (⟨0x00#8, 0x00#8, 0x00#8, 0xFD#8, 0xA0#8, 0x8003#16, 6, [(0x0300#16, 0x80#8)], false⟩ : Expected).holds
      { boot 0x8000#16 [0x6E#8, 0x00#8, 0x03#8] [(0x0300#16, 0x00#8)] with p := unpackP 0x21#8 } = true := by decide

/-- BR2, BPL $8012: rule R171 not taken. -/
theorem test_BR2 :
    (⟨0x00#8, 0x00#8, 0x00#8, 0xFD#8, 0xA0#8, 0x8002#16, 2, [], false⟩ : Expected).holds
      { boot 0x8000#16 [0x10#8, 0x10#8] [] with p := unpackP 0xA0#8 } = true := by decide

/-- BR3, BMI $8012: rule R172 taken. -/
theorem test_BR3 :
    (⟨0x00#8, 0x00#8, 0x00#8, 0xFD#8, 0xA0#8, 0x8012#16, 3, [], false⟩ : Expected).holds
      { boot 0x8000#16 [0x30#8, 0x10#8] [] with p := unpackP 0xA0#8 } = true := by decide

/-- BR4, BVC $8112: rule R173 taken across a page. -/
theorem test_BR4 :
    (⟨0x00#8, 0x00#8, 0x00#8, 0xFD#8, 0x20#8, 0x8112#16, 4, [], false⟩ : Expected).holds
      { boot 0x80F0#16 [0x50#8, 0x20#8] [] with p := unpackP 0x20#8 } = true := by decide

/-- BR5, BVS $8112: rule R173/R174 not taken (no charge for the cross). -/
theorem test_BR5 :
    (⟨0x00#8, 0x00#8, 0x00#8, 0xFD#8, 0x20#8, 0x80F2#16, 2, [], false⟩ : Expected).holds
      { boot 0x80F0#16 [0x70#8, 0x20#8] [] with p := unpackP 0x20#8 } = true := by decide

/-- BR6, BCC $8000: rule R175 taken to itself. -/
theorem test_BR6 :
    (⟨0x00#8, 0x00#8, 0x00#8, 0xFD#8, 0x20#8, 0x8000#16, 3, [], false⟩ : Expected).holds
      { boot 0x8000#16 [0x90#8, 0xFE#8] [] with p := unpackP 0x20#8 } = true := by decide

/-- BR7, BCS $8082: rule R176 taken backwards across a page. -/
theorem test_BR7 :
    (⟨0x00#8, 0x00#8, 0x00#8, 0xFD#8, 0x21#8, 0x8082#16, 4, [], false⟩ : Expected).holds
      { boot 0x8100#16 [0xB0#8, 0x80#8] [] with p := unpackP 0x21#8 } = true := by decide

/-- BR9, BNE $0071: rule R177, target wraps past 0xFFFF. -/
theorem test_BR9 :
    (⟨0x00#8, 0x00#8, 0x00#8, 0xFD#8, 0x20#8, 0x0071#16, 4, [], false⟩ : Expected).holds
      { boot 0xFFF0#16 [0xD0#8, 0x7F#8] [] with p := unpackP 0x20#8 } = true := by decide

/-- BR11, BEQ $8100: rules R125, R178 (next instruction 0x80F2, target 0x8100: crossed). -/
theorem test_BR11 :
    (⟨0x00#8, 0x00#8, 0x00#8, 0xFD#8, 0x22#8, 0x8100#16, 4, [], false⟩ : Expected).holds
      { boot 0x80F0#16 [0xF0#8, 0x0E#8] [] with p := unpackP 0x22#8 } = true := by decide

/-- CP3, CMP #$41: rule R180 (A < m). -/
theorem test_CP3 :
    (⟨0x40#8, 0x00#8, 0x00#8, 0xFD#8, 0xA0#8, 0x8002#16, 2, [], false⟩ : Expected).holds
      { boot 0x8000#16 [0xC9#8, 0x41#8] [] with a := 0x40#8 } = true := by decide

/-- CP4, CMP #$01: rule R180 (unsigned: 0x80 > 0x01, N from difference 0x7F). -/
theorem test_CP4 :
    (⟨0x80#8, 0x00#8, 0x00#8, 0xFD#8, 0x21#8, 0x8002#16, 2, [], false⟩ : Expected).holds
      { boot 0x8000#16 [0xC9#8, 0x01#8] [] with a := 0x80#8 } = true := by decide

/-- CP6, CPX #$05: rule R181. -/
theorem test_CP6 :
    (⟨0x00#8, 0x05#8, 0x00#8, 0xFD#8, 0x23#8, 0x8002#16, 2, [], false⟩ : Expected).holds
      { boot 0x8000#16 [0xE0#8, 0x05#8] [] with x := 0x05#8 } = true := by decide

/-- CP7, CPY #$01: rule R182. -/
theorem test_CP7 :
    (⟨0x00#8, 0x00#8, 0x00#8, 0xFD#8, 0xA0#8, 0x8002#16, 2, [], false⟩ : Expected).holds
      { boot 0x8000#16 [0xC0#8, 0x01#8] [] with y := 0x00#8 } = true := by decide

/-- BT1, BIT $10: rule R184 (Z from A AND m, V and N from m). -/
theorem test_BT1 :
    (⟨0x01#8, 0x00#8, 0x00#8, 0xFD#8, 0x60#8, 0x8002#16, 3, [], false⟩ : Expected).holds
      { boot 0x8000#16 [0x24#8, 0x10#8] [(0x0010#16, 0x41#8)] with a := 0x01#8 } = true := by decide

/-- BT2, BIT $0200: rule R184. -/
theorem test_BT2 :
    (⟨0x0F#8, 0x00#8, 0x00#8, 0xFD#8, 0xE3#8, 0x8003#16, 4, [], false⟩ : Expected).holds
      { boot 0x8000#16 [0x2C#8, 0x00#8, 0x02#8] [(0x0200#16, 0xC0#8)] with a := 0x0F#8, p := unpackP 0x21#8 } = true := by decide

/-- FL1, CLC: rule R186. -/
theorem test_FL1 :
    (⟨0x00#8, 0x00#8, 0x00#8, 0xFD#8, 0xE6#8, 0x8001#16, 2, [], false⟩ : Expected).holds
      { boot 0x8000#16 [0x18#8] [] with p := unpackP 0xE7#8 } = true := by decide

/-- FL2, CLD: rule R187. -/
theorem test_FL2 :
    (⟨0x00#8, 0x00#8, 0x00#8, 0xFD#8, 0x27#8, 0x8001#16, 2, [], false⟩ : Expected).holds
      { boot 0x8000#16 [0xD8#8] [] with p := unpackP 0x2F#8 } = true := by decide

/-- FL3, CLI: rule R188. -/
theorem test_FL3 :
    (⟨0x00#8, 0x00#8, 0x00#8, 0xFD#8, 0x20#8, 0x8001#16, 2, [], false⟩ : Expected).holds
      { boot 0x8000#16 [0x58#8] [] with p := unpackP 0x24#8 } = true := by decide

/-- FL4, CLV: rule R189. -/
theorem test_FL4 :
    (⟨0x00#8, 0x00#8, 0x00#8, 0xFD#8, 0x20#8, 0x8001#16, 2, [], false⟩ : Expected).holds
      { boot 0x8000#16 [0xB8#8] [] with p := unpackP 0x60#8 } = true := by decide

/-- FL5, SEC: rule R190. -/
theorem test_FL5 :
    (⟨0x00#8, 0x00#8, 0x00#8, 0xFD#8, 0x21#8, 0x8001#16, 2, [], false⟩ : Expected).holds
      { boot 0x8000#16 [0x38#8] [] with p := unpackP 0x20#8 } = true := by decide

/-- FL6, SED: rule R191. -/
theorem test_FL6 :
    (⟨0x00#8, 0x00#8, 0x00#8, 0xFD#8, 0x28#8, 0x8001#16, 2, [], false⟩ : Expected).holds
      { boot 0x8000#16 [0xF8#8] [] with p := unpackP 0x20#8 } = true := by decide

/-- FL7, SEI: rule R192. -/
theorem test_FL7 :
    (⟨0x00#8, 0x00#8, 0x00#8, 0xFD#8, 0x24#8, 0x8001#16, 2, [], false⟩ : Expected).holds
      { boot 0x8000#16 [0x78#8] [] with p := unpackP 0x20#8 } = true := by decide

/-- JR4, JSR $9000: rule R201 (S wraps: writes 0x0100 then 0x01FF). -/
theorem test_JR4 :
    (⟨0x00#8, 0x00#8, 0x00#8, 0xFE#8, 0x20#8, 0x9000#16, 6, [(0x0100#16, 0x80#8), (0x01FF#16, 0x02#8)], false⟩ : Expected).holds
      { boot 0x8000#16 [0x20#8, 0x00#8, 0x90#8] [] with sp := 0x00#8 } = true := by decide

/-- JR6, RTS: rule R202 (return address FFFF + 1 wraps to 0000). -/
theorem test_JR6 :
    (⟨0x00#8, 0x00#8, 0x00#8, 0xFD#8, 0x20#8, 0x0000#16, 6, [], false⟩ : Expected).holds
      { boot 0x9000#16 [0x60#8] [(0x01FC#16, 0xFF#8), (0x01FD#16, 0xFF#8)] with sp := 0xFB#8 } = true := by decide

/-- JR7, RTI: rule R203 (B forced 0, U forced 1, no increment). -/
theorem test_JR7 :
    (⟨0x00#8, 0x00#8, 0x00#8, 0xFD#8, 0xEF#8, 0x1234#16, 6, [], false⟩ : Expected).holds
      { boot 0x9000#16 [0x40#8] [(0x01FB#16, 0xDF#8), (0x01FC#16, 0x34#8), (0x01FD#16, 0x12#8)] with sp := 0xFA#8 } = true := by decide

/-- JR8, RTI: rule R203 (pulled byte 00: U still 1). -/
theorem test_JR8 :
    (⟨0x00#8, 0x00#8, 0x00#8, 0xFD#8, 0x20#8, 0x8000#16, 6, [], false⟩ : Expected).holds
      { boot 0x9000#16 [0x40#8] [(0x01FB#16, 0x00#8), (0x01FC#16, 0x00#8), (0x01FD#16, 0x80#8)] with sp := 0xFA#8, p := unpackP 0xEF#8 } = true := by decide

/-- AR4, ADC #$01: rule R221 (D = 1 has no effect, rule R31). -/
theorem test_AR4 :
    (⟨0x0A#8, 0x00#8, 0x00#8, 0xFD#8, 0x28#8, 0x8002#16, 2, [], false⟩ : Expected).holds
      { boot 0x8000#16 [0x69#8, 0x01#8] [] with a := 0x09#8, p := unpackP 0x28#8 } = true := by decide

/-- AR5, ADC #$FF: rule R221 (0x80 + 0xFF + 1 = -128: no overflow). -/
theorem test_AR5 :
    (⟨0x80#8, 0x00#8, 0x00#8, 0xFD#8, 0xA1#8, 0x8002#16, 2, [], false⟩ : Expected).holds
      { boot 0x8000#16 [0x69#8, 0xFF#8] [] with a := 0x80#8, p := unpackP 0x21#8 } = true := by decide

/-- AR7, SBC #$00: rule R222 (borrow in: C = 0). -/
theorem test_AR7 :
    (⟨0xFF#8, 0x00#8, 0x00#8, 0xFD#8, 0xA0#8, 0x8002#16, 2, [], false⟩ : Expected).holds
      { boot 0x8000#16 [0xE9#8, 0x00#8] [] with a := 0x00#8, p := unpackP 0x20#8 } = true := by decide

/-- AR9, SBC #$FF: rule R222 (V: 127 - (-1)). -/
theorem test_AR9 :
    (⟨0x80#8, 0x00#8, 0x00#8, 0xFD#8, 0xE0#8, 0x8002#16, 2, [], false⟩ : Expected).holds
      { boot 0x8000#16 [0xE9#8, 0xFF#8] [] with a := 0x7F#8, p := unpackP 0x21#8 } = true := by decide

/-- AR11, SBC ($20),Y: rules R222, R134, R295 (crossed, read class). -/
theorem test_AR11 :
    (⟨0x0F#8, 0x00#8, 0x20#8, 0xFD#8, 0x21#8, 0x8002#16, 6, [], false⟩ : Expected).holds
      { boot 0x8000#16 [0xF1#8, 0x20#8] [(0x0020#16, 0xF0#8), (0x0021#16, 0x30#8), (0x3110#16, 0x01#8)] with a := 0x10#8, y := 0x20#8, p := unpackP 0x21#8 } = true := by decide

/-- LD2, LDX #$00: rule R224. -/
theorem test_LD2 :
    (⟨0x00#8, 0x00#8, 0x00#8, 0xFD#8, 0x22#8, 0x8002#16, 2, [], false⟩ : Expected).holds
      { boot 0x8000#16 [0xA2#8, 0x00#8] [] with x := 0x55#8 } = true := by decide

/-- LD3, LDX $20F0,Y: rules R224, R295. -/
theorem test_LD3 :
    (⟨0x00#8, 0xFF#8, 0x10#8, 0xFD#8, 0xA0#8, 0x8003#16, 5, [], false⟩ : Expected).holds
      { boot 0x8000#16 [0xBE#8, 0xF0#8, 0x20#8] [(0x2100#16, 0xFF#8)] with y := 0x10#8 } = true := by decide

/-- LD4, LDY #$FF: rule R225. -/
theorem test_LD4 :
    (⟨0x00#8, 0x00#8, 0xFF#8, 0xFD#8, 0xA0#8, 0x8002#16, 2, [], false⟩ : Expected).holds
      (boot 0x8000#16 [0xA0#8, 0xFF#8] []) = true := by decide

/-- LD5, LDY $2000,X: rule R225. -/
theorem test_LD5 :
    (⟨0x00#8, 0x02#8, 0x7E#8, 0xFD#8, 0x20#8, 0x8003#16, 4, [], false⟩ : Expected).holds
      { boot 0x8000#16 [0xBC#8, 0x00#8, 0x20#8] [(0x2002#16, 0x7E#8)] with x := 0x02#8 } = true := by decide

/-- ST1, STA $0200: rule R226 (flags unchanged). -/
theorem test_ST1 :
    (⟨0x00#8, 0x00#8, 0x00#8, 0xFD#8, 0xA0#8, 0x8003#16, 4, [(0x0200#16, 0x00#8)], false⟩ : Expected).holds
      { boot 0x8000#16 [0x8D#8, 0x00#8, 0x02#8] [] with a := 0x00#8, p := unpackP 0xA0#8 } = true := by decide

/-- ST2, STA ($20),Y: rules R226, R295 (store: 6 cycles, crossed or not). -/
theorem test_ST2 :
    (⟨0x42#8, 0x00#8, 0x20#8, 0xFD#8, 0x20#8, 0x8002#16, 6, [(0x3110#16, 0x42#8)], false⟩ : Expected).holds
      { boot 0x8000#16 [0x91#8, 0x20#8] [(0x0020#16, 0xF0#8), (0x0021#16, 0x30#8)] with a := 0x42#8, y := 0x20#8 } = true := by decide

/-- ST3, STX $FF,Y: rule R227 (wraps in page 0). -/
theorem test_ST3 :
    (⟨0x00#8, 0x07#8, 0x02#8, 0xFD#8, 0x20#8, 0x8002#16, 4, [(0x0001#16, 0x07#8)], false⟩ : Expected).holds
      { boot 0x8000#16 [0x96#8, 0xFF#8] [] with x := 0x07#8, y := 0x02#8 } = true := by decide

/-- ST4, STY $11,X: rule R228. -/
theorem test_ST4 :
    (⟨0x00#8, 0xF0#8, 0x09#8, 0xFD#8, 0x20#8, 0x8002#16, 4, [(0x0001#16, 0x09#8)], false⟩ : Expected).holds
      { boot 0x8000#16 [0x94#8, 0x11#8] [] with x := 0xF0#8, y := 0x09#8 } = true := by decide

/-- ID1, INC $10: rule R240 (wraps, Z). -/
theorem test_ID1 :
    (⟨0x00#8, 0x00#8, 0x00#8, 0xFD#8, 0x22#8, 0x8002#16, 5, [(0x0010#16, 0x00#8)], false⟩ : Expected).holds
      (boot 0x8000#16 [0xE6#8, 0x10#8] [(0x0010#16, 0xFF#8)]) = true := by decide

/-- ID2, DEC $0300: rule R241 (wraps, N). -/
theorem test_ID2 :
    (⟨0x00#8, 0x00#8, 0x00#8, 0xFD#8, 0xA0#8, 0x8003#16, 6, [(0x0300#16, 0xFF#8)], false⟩ : Expected).holds
      (boot 0x8000#16 [0xCE#8, 0x00#8, 0x03#8] [(0x0300#16, 0x00#8)]) = true := by decide

/-- ID3, INC $20FF,X: rules R240, R295 (RMW: 7 cycles, no oops). -/
theorem test_ID3 :
    (⟨0x00#8, 0x01#8, 0x00#8, 0xFD#8, 0xA0#8, 0x8003#16, 7, [(0x2100#16, 0x80#8)], false⟩ : Expected).holds
      { boot 0x8000#16 [0xFE#8, 0xFF#8, 0x20#8] [(0x2100#16, 0x7F#8)] with x := 0x01#8 } = true := by decide

/-- ID4, INX: rule R242 (wraps). -/
theorem test_ID4 :
    (⟨0x00#8, 0x00#8, 0x00#8, 0xFD#8, 0x22#8, 0x8001#16, 2, [], false⟩ : Expected).holds
      { boot 0x8000#16 [0xE8#8] [] with x := 0xFF#8 } = true := by decide

/-- ID5, INY: rule R243. -/
theorem test_ID5 :
    (⟨0x00#8, 0x00#8, 0x80#8, 0xFD#8, 0xA0#8, 0x8001#16, 2, [], false⟩ : Expected).holds
      { boot 0x8000#16 [0xC8#8] [] with y := 0x7F#8 } = true := by decide

/-- ID6, DEX: rule R244. -/
theorem test_ID6 :
    (⟨0x00#8, 0x00#8, 0x00#8, 0xFD#8, 0x22#8, 0x8001#16, 2, [], false⟩ : Expected).holds
      { boot 0x8000#16 [0xCA#8] [] with x := 0x01#8 } = true := by decide

/-- ID7, DEY: rule R245 (wraps). -/
theorem test_ID7 :
    (⟨0x00#8, 0x00#8, 0xFF#8, 0xFD#8, 0xA0#8, 0x8001#16, 2, [], false⟩ : Expected).holds
      { boot 0x8000#16 [0x88#8] [] with y := 0x00#8 } = true := by decide

/-- TR1, TAX: rule R246. -/
theorem test_TR1 :
    (⟨0x00#8, 0x00#8, 0x00#8, 0xFD#8, 0x22#8, 0x8001#16, 2, [], false⟩ : Expected).holds
      { boot 0x8000#16 [0xAA#8] [] with a := 0x00#8, x := 0x12#8 } = true := by decide

/-- TR2, TAY: rule R247. -/
theorem test_TR2 :
    (⟨0x90#8, 0x00#8, 0x90#8, 0xFD#8, 0xA0#8, 0x8001#16, 2, [], false⟩ : Expected).holds
      { boot 0x8000#16 [0xA8#8] [] with a := 0x90#8 } = true := by decide

/-- TR3, TXA: rule R248. -/
theorem test_TR3 :
    (⟨0x01#8, 0x01#8, 0x00#8, 0xFD#8, 0x20#8, 0x8001#16, 2, [], false⟩ : Expected).holds
      { boot 0x8000#16 [0x8A#8] [] with a := 0xFF#8, x := 0x01#8 } = true := by decide

/-- TR4, TYA: rule R249. -/
theorem test_TR4 :
    (⟨0xFF#8, 0x00#8, 0xFF#8, 0xFD#8, 0xA0#8, 0x8001#16, 2, [], false⟩ : Expected).holds
      { boot 0x8000#16 [0x98#8] [] with y := 0xFF#8 } = true := by decide

/-- TR5, TSX: rule R250. -/
theorem test_TR5 :
    (⟨0x00#8, 0x00#8, 0x00#8, 0x00#8, 0x22#8, 0x8001#16, 2, [], false⟩ : Expected).holds
      { boot 0x8000#16 [0xBA#8] [] with x := 0x33#8, sp := 0x00#8 } = true := by decide

/-- TR6, TXS: rule R251 (no flags). -/
theorem test_TR6 :
    (⟨0x00#8, 0x00#8, 0x00#8, 0x00#8, 0xA0#8, 0x8001#16, 2, [], false⟩ : Expected).holds
      { boot 0x8000#16 [0x9A#8] [] with x := 0x00#8, p := unpackP 0xA0#8 } = true := by decide

/-- SK1, PHA: rule R252. -/
theorem test_SK1 :
    (⟨0x12#8, 0x00#8, 0x00#8, 0xFC#8, 0x20#8, 0x8001#16, 3, [(0x01FD#16, 0x12#8)], false⟩ : Expected).holds
      { boot 0x8000#16 [0x48#8] [] with a := 0x12#8 } = true := by decide

/-- SK2, PHA: rule R252 (S = 00 wraps to FF). -/
theorem test_SK2 :
    (⟨0x34#8, 0x00#8, 0x00#8, 0xFF#8, 0x20#8, 0x8001#16, 3, [(0x0100#16, 0x34#8)], false⟩ : Expected).holds
      { boot 0x8000#16 [0x48#8] [] with a := 0x34#8, sp := 0x00#8 } = true := by decide

/-- SK3, PHP: rule R253 (bit 4 = 0, bit 5 = 1). -/
theorem test_SK3 :
    (⟨0x00#8, 0x00#8, 0x00#8, 0xFC#8, 0xEF#8, 0x8001#16, 3, [(0x01FD#16, 0xEF#8)], false⟩ : Expected).holds
      { boot 0x8000#16 [0x08#8] [] with p := unpackP 0xEF#8 } = true := by decide

/-- SK5, PLA: rule R254 (S = FF wraps to 00, reads 0x0100). -/
theorem test_SK5 :
    (⟨0x80#8, 0x00#8, 0x00#8, 0x00#8, 0xA0#8, 0x8001#16, 4, [], false⟩ : Expected).holds
      { boot 0x8000#16 [0x68#8] [(0x0100#16, 0x80#8)] with sp := 0xFF#8 } = true := by decide

/-- SK6, PLP: rule R255 (B forced 0, U forced 1). -/
theorem test_SK6 :
    (⟨0x00#8, 0x00#8, 0x00#8, 0xFD#8, 0xEF#8, 0x8001#16, 4, [], false⟩ : Expected).holds
      { boot 0x8000#16 [0x28#8] [(0x01FD#16, 0xFF#8)] with sp := 0xFC#8 } = true := by decide

/-- BK2, BRK: rule R270 (pushed I = 1 as before; padding byte not read). -/
theorem test_BK2 :
    (⟨0x00#8, 0x00#8, 0x00#8, 0xFA#8, 0x24#8, 0x9000#16, 7, [(0x01FD#16, 0x80#8), (0x01FC#16, 0x02#8), (0x01FB#16, 0x34#8)], false⟩ : Expected).holds
      { boot 0x8000#16 [0x00#8, 0xEA#8] [(0xFFFE#16, 0x00#8), (0xFFFF#16, 0x90#8)] with p := unpackP 0x24#8 } = true := by decide

/-- BK3, BRK: rule R270 (S = 01: writes 0x0101, 0x0100, 0x01FF). -/
theorem test_BK3 :
    (⟨0x00#8, 0x00#8, 0x00#8, 0xFE#8, 0x24#8, 0x9000#16, 7, [(0x0101#16, 0x80#8), (0x0100#16, 0x02#8), (0x01FF#16, 0x30#8)], false⟩ : Expected).holds
      { boot 0x8000#16 [0x00#8, 0x00#8] [(0xFFFE#16, 0x00#8), (0xFFFF#16, 0x90#8)] with sp := 0x01#8 } = true := by decide

/-- NP1, NOP: rule R271. -/
theorem test_NP1 :
    (⟨0x00#8, 0x00#8, 0x00#8, 0xFD#8, 0x20#8, 0x8001#16, 2, [], false⟩ : Expected).holds
      (boot 0x8000#16 [0xEA#8] []) = true := by decide

/-- IL2, *NOP $20F0,X: rules R272, R295 (read-class illegal row: oops charged). -/
theorem test_IL2 :
    (⟨0x00#8, 0x20#8, 0x00#8, 0xFD#8, 0x20#8, 0x8003#16, 5, [], false⟩ : Expected).holds
      { boot 0x8000#16 [0x1C#8, 0xF0#8, 0x20#8] [] with x := 0x20#8 } = true := by decide

/-- IL4, *SLO $0200: rule R272 (no write). -/
theorem test_IL4 :
    (⟨0x01#8, 0x00#8, 0x00#8, 0xFD#8, 0x20#8, 0x8003#16, 6, [], false⟩ : Expected).holds
      { boot 0x8000#16 [0x0F#8, 0x00#8, 0x02#8] [(0x0200#16, 0x81#8)] with a := 0x01#8 } = true := by decide

/-- IL5, *KIL: rule R273 (does not halt). -/
theorem test_IL5 :
    (⟨0x00#8, 0x00#8, 0x00#8, 0xFD#8, 0x20#8, 0x8001#16, 2, [], false⟩ : Expected).holds
      (boot 0x8000#16 [0x02#8] []) = true := by decide

/-- EN1, NOP: rule R291 (DMA stall of 513 added, then the instruction). -/
theorem test_EN1 :
    (⟨0x00#8, 0x00#8, 0x00#8, 0xFD#8, 0x20#8, 0x8001#16, 515, [], false⟩ : Expected).holds
      { boot 0x8000#16 [0xEA#8] [] with dmaCycles := 513 } = true := by decide

/-- IN1, NOP + IRQ: rules R326, R327, R329 (IRQ with I = 0). -/
theorem test_IN1 :
    (⟨0x00#8, 0x00#8, 0x00#8, 0xFA#8, 0x24#8, 0x9000#16, 9, [(0x01FD#16, 0x80#8), (0x01FC#16, 0x01#8), (0x01FB#16, 0x20#8)], false⟩ : Expected).holds
      { boot 0x8000#16 [0xEA#8] [(0xFFFA#16, 0x00#8), (0xFFFB#16, 0xA0#8), (0xFFFE#16, 0x00#8), (0xFFFF#16, 0x90#8)] with pendingIRQ := true } = true := by decide

/-- IN2, NOP + IRQ masked: rules R324, R325 (I = 1: not taken, stays pending). -/
theorem test_IN2 :
    (⟨0x00#8, 0x00#8, 0x00#8, 0xFD#8, 0x24#8, 0x8001#16, 2, [], true⟩ : Expected).holds
      { boot 0x8000#16 [0xEA#8] [(0xFFFA#16, 0x00#8), (0xFFFB#16, 0xA0#8), (0xFFFE#16, 0x00#8), (0xFFFF#16, 0x90#8)] with p := unpackP 0x24#8, pendingIRQ := true } = true := by decide

/-- IN3, NOP + NMI: rules R323, R326 (I = 1 does not mask NMI). -/
theorem test_IN3 :
    (⟨0x00#8, 0x00#8, 0x00#8, 0xFA#8, 0x25#8, 0xA000#16, 9, [(0x01FD#16, 0x80#8), (0x01FC#16, 0x01#8), (0x01FB#16, 0x25#8)], false⟩ : Expected).holds
      { boot 0x8000#16 [0xEA#8] [(0xFFFA#16, 0x00#8), (0xFFFB#16, 0xA0#8), (0xFFFE#16, 0x00#8), (0xFFFF#16, 0x90#8)] with p := unpackP 0x25#8, pendingNMI := true } = true := by decide

/-- IN4, CLI + IRQ: rules R326, R367 (new I = 0 applies in the same step, D17). -/
theorem test_IN4 :
    (⟨0x00#8, 0x00#8, 0x00#8, 0xFA#8, 0x24#8, 0x9000#16, 9, [(0x01FD#16, 0x80#8), (0x01FC#16, 0x01#8), (0x01FB#16, 0x20#8)], false⟩ : Expected).holds
      { boot 0x8000#16 [0x58#8] [(0xFFFA#16, 0x00#8), (0xFFFB#16, 0xA0#8), (0xFFFE#16, 0x00#8), (0xFFFF#16, 0x90#8)] with p := unpackP 0x24#8, pendingIRQ := true } = true := by decide

/-- IN5, SEI + IRQ: rule R326 (new I = 1 masks in the same step). -/
theorem test_IN5 :
    (⟨0x00#8, 0x00#8, 0x00#8, 0xFD#8, 0x24#8, 0x8001#16, 2, [], true⟩ : Expected).holds
      { boot 0x8000#16 [0x78#8] [(0xFFFA#16, 0x00#8), (0xFFFB#16, 0xA0#8), (0xFFFE#16, 0x00#8), (0xFFFF#16, 0x90#8)] with p := unpackP 0x20#8, pendingIRQ := true } = true := by decide

/-- IN6, BRK + NMI: rules R270, R330 (NMI entered on top of BRK). -/
theorem test_IN6 :
    (⟨0x00#8, 0x00#8, 0x00#8, 0xF7#8, 0x24#8, 0xA000#16, 14, [(0x01FD#16, 0x80#8), (0x01FC#16, 0x02#8), (0x01FB#16, 0x30#8), (0x01FA#16, 0x90#8), (0x01F9#16, 0x00#8), (0x01F8#16, 0x24#8)], false⟩ : Expected).holds
      { boot 0x8000#16 [0x00#8, 0x00#8] [(0xFFFA#16, 0x00#8), (0xFFFB#16, 0xA0#8), (0xFFFE#16, 0x00#8), (0xFFFF#16, 0x90#8)] with pendingNMI := true } = true := by decide

/-- IN7, BRK + IRQ: rule R330 (BRK set I: IRQ stays pending). -/
theorem test_IN7 :
    (⟨0x00#8, 0x00#8, 0x00#8, 0xFA#8, 0x24#8, 0x9000#16, 7, [(0x01FD#16, 0x80#8), (0x01FC#16, 0x02#8), (0x01FB#16, 0x30#8)], true⟩ : Expected).holds
      { boot 0x8000#16 [0x00#8, 0x00#8] [(0xFFFA#16, 0x00#8), (0xFFFB#16, 0xA0#8), (0xFFFE#16, 0x00#8), (0xFFFF#16, 0x90#8)] with pendingIRQ := true } = true := by decide

/-- IN8, RTI + IRQ: rules R203, R326 (RTI restores I = 0: IRQ entered). -/
theorem test_IN8 :
    (⟨0x00#8, 0x00#8, 0x00#8, 0xFA#8, 0x24#8, 0x9000#16, 13, [(0x01FD#16, 0x80#8), (0x01FC#16, 0x00#8), (0x01FB#16, 0x20#8)], false⟩ : Expected).holds
      { boot 0x9000#16 [0x40#8] [(0x01FB#16, 0x20#8), (0x01FC#16, 0x00#8), (0x01FD#16, 0x80#8), (0xFFFA#16, 0x00#8), (0xFFFB#16, 0xA0#8), (0xFFFE#16, 0x00#8), (0xFFFF#16, 0x90#8)] with sp := 0xFA#8, p := unpackP 0x24#8, pendingIRQ := true } = true := by decide

/-- IN9, NOP + IRQ, S = 01: rule R334 (stack wraps during entry). -/
theorem test_IN9 :
    (⟨0x00#8, 0x00#8, 0x00#8, 0xFE#8, 0x24#8, 0x9000#16, 9, [(0x0101#16, 0x80#8), (0x0100#16, 0x01#8), (0x01FF#16, 0x20#8)], false⟩ : Expected).holds
      { boot 0x8000#16 [0xEA#8] [(0xFFFA#16, 0x00#8), (0xFFFB#16, 0xA0#8), (0xFFFE#16, 0x00#8), (0xFFFF#16, 0x90#8)] with sp := 0x01#8, pendingIRQ := true } = true := by decide

/-- S6: the bus reads of JMP ($30FF), in order. -/
theorem test_S6_reads :
    (match step (boot 0x8000#16 [0x6C#8, 0xFF#8, 0x30#8] [(0x30FF#16, 0x40#8), (0x3000#16, 0x80#8), (0x3100#16, 0x55#8)]) with
      | .next t => readsOf t.busLog
      | .fault _ => []
      | .refused _ => []) = [0x8000#16, 0x8001#16, 0x8002#16, 0x30FF#16, 0x3000#16] := by decide

/-- S9, its first step: with both latches set NMI is entered and IRQ stays pending. -/
theorem test_S9_first_step :
    (match step { boot 0x8000#16 [0xEA#8] [(0xFFFB#16, 0xA0#8), (0xFFFF#16, 0x90#8)] with
        pendingNMI := true, pendingIRQ := true } with
      | .next t => (t.pc, t.pendingNMI, t.pendingIRQ, t.stepCycles)
      | .fault _ => (0#16, false, false, 0)
      | .refused _ => (0#16, false, false, 0)) = (0xA000#16, false, true, 9) := by decide

/-- RS1: Reset from an arbitrary state. -/
theorem test_RS1 :
    let t := resetOp { boot 0x1234#16 [] [(0xFFFD#16, 0xC0#8)] with
      a := 0x12#8, x := 0x34#8, y := 0x56#8, sp := 0x10#8, p := unpackP 0xEF#8, pendingNMI := true, pendingIRQ := true
      dmaCycles := 5, cycleCount := 999 }
    t.a = 0x00#8 ∧ t.x = 0x00#8 ∧ t.y = 0x00#8 ∧ t.sp = 0xFD#8 ∧ flagsByte t.p = 0x20#8 ∧ t.pc = 0xC000#16 ∧
      t.pendingNMI = false ∧ t.pendingIRQ = false ∧ t.dmaCycles = 0 ∧ t.cycleCount = 0 ∧
      readsOf t.busLog = [0xFFFC#16, 0xFFFD#16] ∧ writesOf t.busLog = [] := by decide

/-- ILLEGAL_CYCLES: a listed illegal byte costs what is listed, a documented byte its row's cycles (R274). -/
theorem test_illegal_cycles :
    let q : Params := { oopsPolicy := .readClass, illegalCycles := [(0x04#8, 9), (0xEA#8, 9)] }
    baseCyclesOf q 0x04#8 = 9 ∧ baseCyclesOf q 0x07#8 = 5 ∧ baseCyclesOf q 0xEA#8 = 2 := by decide

/-- withFetchWord puts the instruction where the step fetches, at the top of the address space too. -/
theorem test_withFetchWord :
    fetchInstr (({ State.reset with pc := 0xFFFF#16, bus := { answers := [some 0xEA#8], ignored := [] } } : State).withFetchWord
      24 0x1234AD) = .ldaAbs 0x1234#16 := by decide

/-- R61: the bus may answer two reads of one address differently: the opcode byte of LDA $8000 is read as 0xAD and then, as the
operand, as 0x55. -/
theorem test_bus_two_answers :
    (match step { boot 0x8000#16 [0xAD#8, 0x00#8, 0x80#8] [] with
        bus := { answers := [none, none, none, some 0x55#8], ignored := [] } } with
      | .next t => (t.a, t.mem.read 0x8000#16, t.busLog, t.bus)
      | .fault _ => (0#8, 0#8, [], Bus.ram)
      | .refused _ => (0#8, 0#8, [], Bus.ram)) =
      (0x55#8, 0xAD#8, [.read 0x8000#16 0xAD#8, .read 0x8001#16 0x00#8, .read 0x8002#16 0x80#8, .read 0x8000#16 0x55#8], Bus.ram) := by decide

/-- R61: every byte may come from the bus, opcode, operand and vector, and none from the RAM: LDX #$80 and then an IRQ entry. -/
theorem test_bus_answers_all :
    (match step { boot 0x8000#16 [] [] with
        pendingIRQ := true, bus := { answers := [some 0xA2#8, some 0x80#8, some 0x34#8, some 0x12#8, some 0xFF#8], ignored := [] } } with
      | .next t => (t.x, t.pc, t.bus.answers)
      | .fault _ => (0#8, 0#16, [])
      | .refused _ => (0#8, 0#16, [])) = (0x80#8, 0x1234#16, [some 0xFF#8]) := by decide

/-- R62: a write that a ROM ignores: INC $FFFE, then the IRQ entry reads the old byte there; the write event is there. -/
theorem test_bus_ignored_write :
    (match step { boot 0x8000#16 [0xEE#8, 0xFE#8, 0xFF#8] [(0xFFFF#16, 0x90#8)] with
        pendingIRQ := true, bus := { answers := [], ignored := [true] } } with
      | .next t => (t.pc, (writesOf t.busLog).head?, t.bus.ignored)
      | .fault _ => (0#16, none, [])
      | .refused _ => (0#16, none, [])) = (0x9000#16, some (0xFFFE#16, 0x01#8), []) := by decide

/-- R62, R75: the same on the RAM bus, where the entry reads the new byte. -/
theorem test_bus_ram_write :
    (match step { boot 0x8000#16 [0xEE#8, 0xFE#8, 0xFF#8] [(0xFFFF#16, 0x90#8)] with pendingIRQ := true } with
      | .next t => t.pc
      | .fault _ => 0#16
      | .refused _ => 0#16) = 0x9001#16 := by decide

/-- R7: the step with its parameters as arguments. -/
theorem test_stepWith :
    (match stepWith { answers := [some 0xA9#8, some 0x77#8], ignored := [] } anyIndexed (boot 0x8000#16 [] []) with
      | .next t => (t.a, t.stepCycles, t.params)
      | .fault _ => (0#8, 0, Params.defaults)
      | .refused _ => (0#8, 0, Params.defaults)) = (0x77#8, 2, anyIndexed) := by decide

/-- R100: a branch shows its target. -/
theorem test_disassemble_branch :
    disassemble 0x8005#16 (.bne 0xF9#8) = ['B', 'N', 'E', ' ', '$', '8', '0', '0', '0'] := by decide

/-- R100: an illegal row's mnemonic has its asterisk. -/
theorem test_disassemble_illegal :
    disassemble 0x8000#16 (.illNop1C 0x20F0#16) =
      ['*', 'N', 'O', 'P', ' ', '$', '2', '0', 'F', '0', ',', 'X'] := by decide

/-! ### Witnesses: states and operands that meet the hypotheses of the statements -/

/-- A state for the witnesses: JSR at the top of memory, S about to wrap, D and C set. -/
def sample : State :=
  { boot 0xFFFE#16 [0x20#8, 0x34#8, 0x12#8] [(0x01FF#16, 0x55#8)] with
    a := 0x80#8, x := 0xFF#8, y := 0x01#8, sp := 0x00#8, p := unpackP 0x29#8 }

theorem witness_EveryStepKeepsInvariant :
    ∃ s t : State, s.inv = true ∧ step s = .next t := ⟨sample, _, by decide, rfl⟩

theorem witness_BoundaryFlagsHoldAtEveryBoundary :
    ∃ s t : State, s.atBoundary = true ∧ step s = .next t := ⟨sample, _, by decide, rfl⟩

theorem witness_ReachableStatesMeetInvariant :
    ∃ s t : State, s.inv = true ∧ Reaches s (applyInput .reset t) ∧ Reaches State.reset (applyInput .raiseNMI State.reset) := 
  ⟨sample, _, by decide, .input .reset (.step .start rfl), .input .raiseNMI .start⟩

theorem witness_CanonicalMemoriesAreEqualData :
    ∃ m n : Memory, m.wf = true ∧ n.wf = true ∧ ∀ a : Word, m.read a = n.read a := 
  ⟨[(0, 1#8), (65535, 2#8)], [(0, 1#8), (65535, 2#8)], by decide, by decide, fun _ => rfl⟩

theorem witness_EncodeOfDecode :
    bytesWellFormed [0xAD#8, 0xFF#8, 0xFF#8] = true ∧ bytesWellFormed [0xEA#8] = true := by decide

/-- The bus answers the third read itself. -/
theorem witness_StepRunsTheDecodedInstruction :
    ∃ (s : State) (i : Instr) (rest : List Byte), i.wellFormed = true ∧
      decode [Rules.answer 0 s.pc s, Rules.answer 1 (s.pc + 1#16) s, Rules.answer 2 (s.pc + 2#16) s] = .ok i rest ∧
      s.mem.read (s.pc + 2#16) ≠ Rules.answer 2 (s.pc + 2#16) s := 
  ⟨{ sample with bus := { answers := [none, none, some 0x43#8], ignored := [] } }, .jsr 0x4334#16, [], by decide, by decide, by decide⟩

theorem witness_CyclesOfAStep :
    ∃ s u : State, s.atBoundary = true ∧ exec (fetchInstr s) (prepareStep s) = .next u ∧ s.pendingNMI = true := 
  ⟨{ sample with pendingNMI := true }, _, by decide, rfl, rfl⟩

theorem witness_DmaStallOnlyAddsCycles :
    ∃ s t : State, step (startDma 0 s) = .next t := ⟨sample, _, rfl⟩

/-- STA stores to its own opcode byte, INC to page zero, JSR (its first push ignored) to the stack, and an IRQ entry to the stack. -/
theorem witness_StoredBytesAreFetched :
    (∃ (s : State) (addr : Word), fetchInstr s = .staAbs addr ∧ s.pendingNMI = false ∧ s.pendingIRQ = false ∧ addr = s.pc) ∧
      (∃ s t : State, fetchInstr s = .incZp 0x10#8 ∧ step s = .next t ∧ Rules.written s.bus.ignored t.busLog 0x0010#16 = some 0x01#8) ∧
      (∃ s t : State, fetchInstr s = .jsr 0x1234#16 ∧ step s = .next t ∧ Rules.written s.bus.ignored t.busLog 0x0100#16 = none ∧
        Rules.written s.bus.ignored t.busLog 0x01FF#16 = some 0x00#8) ∧
      ∃ s t u : State, fetchInstr s = .nop ∧ s.pendingIRQ = true ∧ step s = .next t ∧
        Rules.written s.bus.ignored t.busLog 0x01FD#16 = some 0x80#8 ∧ u.mem = t.mem ∧ u.pc = 0x01FD#16 ∧ u.bus.answers = [] := 
  ⟨⟨boot 0x8000#16 [0x8D#8, 0x00#8, 0x80#8] [], 0x8000#16, by decide, rfl, rfl, rfl⟩,
    ⟨boot 0x8000#16 [0xE6#8, 0x10#8] [], _, by decide, rfl, by decide⟩,
    ⟨{ sample with bus := { answers := [], ignored := [true] } }, _, by decide, rfl, by decide, by decide⟩,
    ⟨{ boot 0x8000#16 [0xEA#8] [] with pendingIRQ := true }, _, { State.reset with pc := 0x01FD#16, mem := _ }, by decide, rfl, rfl,
      by decide, rfl, rfl, rfl⟩⟩

theorem witness_LoadsReachTheirRegister :
    Instr.mnemonic (.ldaAbx 0xFFFF#16) = .lda ∧ Instr.mnemonic (.ldxImm 0xFF#8) = .ldx ∧ Instr.mnemonic (.ldyZpx 0xFF#8) = .ldy := by decide

theorem witness_AndOraEorCombineAccumulator :
    Instr.mnemonic (.andIzx 0xFF#8) = .and ∧ Instr.mnemonic (.oraIzy 0xFF#8) = .ora ∧ Instr.mnemonic (.eorAby 0xFFFF#16) = .eor := by decide

theorem witness_AdcAddsWithCarry :
    Instr.mnemonic (.adcIzy 0xFF#8) = .adc := rfl

theorem witness_SbcAddsTheComplement :
    Instr.mnemonic (.sbcImm 0xFF#8) = .sbc := rfl

theorem witness_ComparesSetFlagsOnly :
    Instr.mnemonic (.cmpImm 0x00#8) = .cmp ∧ Instr.mnemonic (.cpxAbs 0xFFFF#16) = .cpx ∧ Instr.mnemonic (.cpyZp 0xFF#8) = .cpy := by decide

theorem witness_BitTestsTheOperand :
    Instr.mnemonic (.bitAbs 0xFFFF#16) = .bit := rfl

theorem witness_StoresWriteTheirRegister :
    (∃ ea : Word, Instr.mnemonic (.staAbx 0xFFFF#16) = .sta ∧ (resolve (Instr.operand (.staAbx 0xFFFF#16)) sample).1 = .memory ea) ∧
      (∃ ea : Word, Instr.mnemonic (.stxZpy 0xFF#8) = .stx ∧ (resolve (Instr.operand (.stxZpy 0xFF#8)) sample).1 = .memory ea) ∧
      ∃ ea : Word, Instr.mnemonic (.styAbs 0xFFFF#16) = .sty ∧ (resolve (Instr.operand (.styAbs 0xFFFF#16)) sample).1 = .memory ea := 
  ⟨⟨_, rfl, rfl⟩, ⟨_, rfl, rfl⟩, ⟨_, rfl, rfl⟩⟩

/-- The Accumulator form and a memory form of each. -/
theorem witness_AslLsrShiftOneBit :
    (Instr.mnemonic .aslAcc = .asl ∧ (resolve (Instr.operand .aslAcc) sample).1 = .noAddress) ∧
      (Instr.mnemonic (.aslAbx 0xFFFF#16) = .asl ∧ ∃ ea : Word, (resolve (Instr.operand (.aslAbx 0xFFFF#16)) sample).1 = .memory ea) ∧
      (Instr.mnemonic .lsrAcc = .lsr ∧ (resolve (Instr.operand .lsrAcc) sample).1 = .noAddress) ∧
      (Instr.mnemonic (.lsrAbx 0xFFFF#16) = .lsr ∧ ∃ ea : Word, (resolve (Instr.operand (.lsrAbx 0xFFFF#16)) sample).1 = .memory ea) := 
  ⟨⟨rfl, rfl⟩, ⟨rfl, _, rfl⟩, ⟨rfl, rfl⟩, ⟨rfl, _, rfl⟩⟩

/-- The Accumulator form and a memory form of each. -/
theorem witness_RolRorRotateThroughCarry :
    (Instr.mnemonic .rolAcc = .rol ∧ (resolve (Instr.operand .rolAcc) sample).1 = .noAddress) ∧
      (Instr.mnemonic (.rolAbx 0xFFFF#16) = .rol ∧ ∃ ea : Word, (resolve (Instr.operand (.rolAbx 0xFFFF#16)) sample).1 = .memory ea) ∧
      (Instr.mnemonic .rorAcc = .ror ∧ (resolve (Instr.operand .rorAcc) sample).1 = .noAddress) ∧
      (Instr.mnemonic (.rorAbx 0xFFFF#16) = .ror ∧ ∃ ea : Word, (resolve (Instr.operand (.rorAbx 0xFFFF#16)) sample).1 = .memory ea) := 
  ⟨⟨rfl, rfl⟩, ⟨rfl, _, rfl⟩, ⟨rfl, rfl⟩, ⟨rfl, _, rfl⟩⟩

theorem witness_CarryAndOverflowOfArithmetic :
    (∃ t : State, Instr.mnemonic (.adcImm 0xFF#8) = .adc ∧ exec (.adcImm 0xFF#8) sample = .next t) ∧
      ∃ t : State, Instr.mnemonic (.sbcImm 0x80#8) = .sbc ∧ exec (.sbcImm 0x80#8) sample = .next t := 
  ⟨⟨_, rfl, rfl⟩, ⟨_, rfl, rfl⟩⟩

theorem witness_IncAndDecChangeOneByte :
    (∃ ea : Word, Instr.mnemonic (.incZpx 0xFF#8) = .inc ∧ (resolve (Instr.operand (.incZpx 0xFF#8)) sample).1 = .memory ea) ∧
      ∃ ea : Word, Instr.mnemonic (.decAbx 0xFFFF#16) = .dec ∧ (resolve (Instr.operand (.decAbx 0xFFFF#16)) sample).1 = .memory ea := 
  ⟨⟨_, rfl, rfl⟩, ⟨_, rfl, rfl⟩⟩

/-- The stack wraps: the pushes go to 0x0100 and 0x01FF. -/
theorem witness_JsrThenRtsReturns :
    (∃ s t u : State, exec (.jsr 0x1234#16) s = .next t ∧ u.sp = t.sp ∧
        Rules.answer 0 (Rules.stackAbove 1 u) u = Rules.lowOf (s.pc + 2#16) ∧
        Rules.answer 1 (Rules.stackAbove 2 u) u = Rules.highOf (s.pc + 2#16) ∧ s.bus.ignored = [true, true]) ∧
      ∃ s t u : State, exec (.jsr 0x1234#16) s = .next t ∧ u.sp = t.sp ∧ s.bus.ignored = [] ∧ u.bus.answers = [] ∧
        u.mem.read (Rules.stackBelow 0 s) = t.mem.read (Rules.stackBelow 0 s) ∧
        u.mem.read (Rules.stackBelow 1 s) = t.mem.read (Rules.stackBelow 1 s) ∧ u ≠ t := 
  ⟨⟨{ sample with bus := { answers := [], ignored := [true, true] } }, _, { sample with sp := 0xFE#8, bus := { answers := [some 0x00#8, some 0x00#8], ignored := [] } },
      rfl, by decide, by decide, by decide, rfl⟩,
    ⟨sample, _, { sample with sp := 0xFE#8, mem := (sample.mem.write 0x0100#16 0x00#8).write 0x01FF#16 0x00#8 }, rfl, by decide,
      rfl, rfl, by decide, by decide, by decide⟩⟩

theorem witness_BrkThenRtiRestores :
    (∃ s t u : State, exec (.brk 0xEA#8) s = .next t ∧ u.sp = t.sp ∧
        (Rules.answer 0 (Rules.stackAbove 1 u) u).toNat = Rules.statusNumber true true s.p ∧
        Rules.answer 1 (Rules.stackAbove 2 u) u = Rules.lowOf (s.pc + 2#16) ∧
        Rules.answer 2 (Rules.stackAbove 3 u) u = Rules.highOf (s.pc + 2#16) ∧ u.mem = []) ∧
      ∃ s t u : State, exec (.brk 0xEA#8) s = .next t ∧ u.sp = t.sp ∧ s.bus.ignored = [] ∧ u.bus.answers = [] ∧
        ∀ k : Nat, k < 3 → u.mem.read (Rules.stackBelow k s) = t.mem.read (Rules.stackBelow k s) := 
  ⟨⟨sample, _, { State.reset with bus := { answers := [some 0x39#8, some 0x00#8, some 0x00#8], ignored := [] } },
      rfl, by decide, by decide, by decide, by decide, rfl⟩,
    ⟨sample, _, _, rfl, rfl, rfl, rfl, fun _ _ => rfl⟩⟩

theorem witness_PullAfterPushRestores :
    (∃ s : State, s.bus.ignored[0]? ≠ some true ∧ s.bus.answers = [] ∧ s.sp = 0x00#8) ∧
      ∃ s : State, s.bus.ignored[0]? ≠ some true ∧ s.bus.answers ≠ [] := 
  ⟨⟨sample, by decide, rfl, rfl⟩, ⟨{ sample with bus := { answers := [some 0x01#8], ignored := [false, true] } }, by decide, by decide⟩⟩

theorem witness_IllegalRowsOnlyResolve :
    (tableRow (Instr.opcode (.illSlo1F 0xFFFF#16))).cls = .illegal ∧ Instr.mnemonic .illKil02 = .illKil := by decide

theorem witness_NmiIsEnteredAfterTheInstruction :
    ∃ s u : State, s.pendingNMI = true ∧ exec (fetchInstr s) (prepareStep s) = .next u := 
  ⟨{ sample with pendingNMI := true, pendingIRQ := true }, _, rfl, rfl⟩

theorem witness_IrqIsEnteredWhenUnmasked :
    (∃ s u : State, s.pendingNMI = false ∧ exec (fetchInstr s) (prepareStep s) = .next u ∧ s.pendingIRQ = true ∧ u.p.i = false) ∧
      (∃ s u : State, s.pendingNMI = false ∧ exec (fetchInstr s) (prepareStep s) = .next u ∧ s.pendingIRQ = true ∧ u.p.i = true) ∧
      ∃ s u : State, s.pendingNMI = false ∧ exec (fetchInstr s) (prepareStep s) = .next u ∧ s.pendingIRQ = false := 
  ⟨⟨{ sample with pendingIRQ := true }, _, rfl, rfl, rfl, by decide⟩,
    ⟨{ sample with pendingIRQ := true, p := unpackP 0x24#8 }, _, rfl, rfl, rfl, by decide⟩, ⟨sample, _, rfl, rfl, rfl⟩⟩

theorem witness_InterruptMaskActsInItsOwnStep :
    (∃ s : State, fetchInstr s = .cli ∧ s.pendingNMI = false ∧ s.pendingIRQ = true) ∧
      ∃ s : State, fetchInstr s = .sei ∧ s.pendingNMI = false ∧ s.pendingIRQ = true := 
  ⟨⟨{ boot 0x8000#16 [0x58#8] [] with pendingIRQ := true }, by decide, rfl, rfl⟩,
    ⟨{ boot 0x8000#16 [0x78#8] [] with pendingIRQ := true }, by decide, rfl, rfl⟩⟩

theorem witness_NmiOnTopOfBrk :
    (∃ s : State, fetchInstr s = .brk 0xEA#8 ∧ s.pendingNMI = true ∧ s.sp = 0x02#8) ∧
      ∃ s : State, fetchInstr s = .brk 0x00#8 ∧ s.pendingNMI = false ∧ s.pendingIRQ = true := 
  ⟨⟨{ boot 0x8000#16 [0x00#8, 0xEA#8] [] with pendingNMI := true, sp := 0x02#8 }, by decide, rfl, rfl⟩,
    ⟨{ boot 0x8000#16 [0x00#8, 0x00#8] [] with pendingIRQ := true }, by decide, rfl, rfl⟩⟩

theorem witness_AccumulatorWritersAndReaders :
    (∃ t : State, exec (.aslAbs 0x0200#16) sample = .next t ∧ Instr.mnemonic (.aslAbs 0x0200#16) ∉ Rules.accumulatorWriters ∧
        ¬ (Instr.mnemonic (.aslAbs 0x0200#16) ∈ Rules.shifts ∧ operandMode (Instr.operand (.aslAbs 0x0200#16)) = .accumulator)) ∧
      ∃ t : State, exec (.ldaImm 0x00#8) sample = .next t ∧ Instr.mnemonic (.ldaImm 0x00#8) ∉ Rules.accumulatorReaders ∧
        operandMode (Instr.operand (.ldaImm 0x00#8)) ≠ .accumulator := 
  ⟨⟨_, rfl, by decide, by decide⟩, ⟨_, rfl, by decide, by decide⟩⟩

theorem witness_IndexWritersAndReaders :
    (∃ t : State, exec .txs sample = .next t ∧ Instr.mnemonic .txs ∉ Rules.xWriters) ∧
      (∃ t : State, exec (.ldxZpy 0xFF#8) sample = .next t ∧ Instr.mnemonic (.ldxZpy 0xFF#8) ∉ Rules.xReaders ∧
        operandMode (Instr.operand (.ldxZpy 0xFF#8)) ≠ .absoluteX ∧ operandMode (Instr.operand (.ldxZpy 0xFF#8)) ≠ .zeroPageX ∧
        operandMode (Instr.operand (.ldxZpy 0xFF#8)) ≠ .indexedIndirectX) ∧
      (∃ t : State, exec (.staIzy 0xFF#8) sample = .next t ∧ Instr.mnemonic (.staIzy 0xFF#8) ∉ Rules.yWriters) ∧
      ∃ t : State, exec (.ldyAbx 0xFFFF#16) sample = .next t ∧ Instr.mnemonic (.ldyAbx 0xFFFF#16) ∉ Rules.yReaders ∧
        operandMode (Instr.operand (.ldyAbx 0xFFFF#16)) ≠ .absoluteY ∧ operandMode (Instr.operand (.ldyAbx 0xFFFF#16)) ≠ .zeroPageY ∧
        operandMode (Instr.operand (.ldyAbx 0xFFFF#16)) ≠ .indirectIndexedY := 
  ⟨⟨_, rfl, by decide⟩, ⟨_, rfl, by decide, by decide, by decide, by decide⟩, ⟨_, rfl, by decide⟩,
    ⟨_, rfl, by decide, by decide, by decide, by decide⟩⟩

theorem witness_StackPointerWritersAndReaders :
    (∃ t : State, exec .tsx sample = .next t ∧ Instr.mnemonic .tsx ∉ Rules.stackUsers ∧ Instr.mnemonic .tsx ≠ .txs) ∧
      (∃ t : State, exec .txs sample = .next t ∧ Instr.mnemonic .txs ∉ Rules.stackUsers ∧ Instr.mnemonic .txs ≠ .tsx) ∧
      Rules.page 0x00FF#16 ≠ 1 ∧ Rules.page 0x0200#16 ≠ 1 := 
  ⟨⟨_, rfl, by decide, by decide⟩, ⟨_, rfl, by decide, by decide⟩, by decide, by decide⟩

theorem witness_FlagWriters :
    ∃ t : State, exec (.staAbs 0xFFFF#16) sample = .next t ∧
      Instr.mnemonic (.staAbs 0xFFFF#16) ∉ Rules.carryWriters ∧
      Instr.mnemonic (.staAbs 0xFFFF#16) ∉ Rules.zeroNegativeWriters ∧
      Instr.mnemonic (.staAbs 0xFFFF#16) ∉ Rules.interruptDisableWriters ∧
      Instr.mnemonic (.staAbs 0xFFFF#16) ∉ Rules.decimalWriters ∧
      Instr.mnemonic (.staAbs 0xFFFF#16) ∉ Rules.overflowWriters ∧
      Instr.mnemonic (.staAbs 0xFFFF#16) ∉ Rules.breakWriters ∧
      Instr.mnemonic (.staAbs 0xFFFF#16) ∉ Rules.unusedWriters := 
  ⟨_, rfl, by decide⟩

/-- RTI reads no flag and writes them all. -/
theorem witness_FlagReaders :
    ∃ t : State, exec .rti sample = .next t ∧ Instr.mnemonic .rti ∉ Rules.carryReaders ∧
      Instr.mnemonic .rti ∉ Rules.zeroReaders ∧
      Instr.mnemonic .rti ∉ Rules.statusPushers ∧
      Instr.mnemonic .rti ∉ Rules.overflowReaders ∧
      Instr.mnemonic .rti ∉ Rules.negativeReaders := 
  ⟨_, rfl, by decide⟩

theorem witness_DecimalFlagChangesNoResult :
    ∃ s t u : State, step s = .next t ∧ step { s with p := { s.p with d := false } } = .next u ∧ s.p.d = true := 
  ⟨sample, _, _, rfl, rfl, by decide⟩

theorem witness_EveryAccessIsTheBus :
    ∃ s t : State, step s = .next t ∧ s.bus.answers.length = 4 ∧ s.bus.ignored.length = 1 := 
  ⟨{ sample with bus := { answers := [none, some 0x00#8, none, some 0x01#8], ignored := [true] } }, _, rfl, rfl, rfl⟩

/-- JMP Indirect, which reads seven times. -/
theorem witness_CoreKnowsTheBusAlone :
    ∃ s t : State, (∀ k : Nat, k < 7 → ∃ v : Byte, s.bus.answers[k]? = some (some v)) ∧ step s = .next t ∧ s.mem ≠ [] := 
  ⟨{ sample with bus := { answers := List.replicate 7 (some 0x6C#8), ignored := [] } }, _, seven, rfl, by decide⟩
where
  /-- Each of seven equal answers is given. -/
  seven (k : Nat) (h : k < 7) : ∃ v : Byte, (List.replicate 7 (some (0x6C#8 : Byte)))[k]? = some (some v) :=
    ⟨0x6C#8, by rw [List.getElem?_replicate, if_pos h]⟩

theorem witness_InstructionsLeaveTheEngineAlone :
    ∃ t : State, exec (.beq 0x80#8) sample = .next t := ⟨_, rfl⟩

theorem witness_OnlyStoresAndPushesWriteMemory :
    (∃ t : State, exec (.illSlo0F 0x01FF#16) sample = .next t ∧ Instr.mnemonic (.illSlo0F 0x01FF#16) ∉ Rules.addressWriters ∧
        Instr.mnemonic (.illSlo0F 0x01FF#16) ∉ Rules.pushers) ∧
      (∃ t : State, exec (.staAbs 0x01FF#16) sample = .next t ∧ Instr.mnemonic (.staAbs 0x01FF#16) ∈ Rules.addressWriters ∧
        (resolve (Instr.operand (.staAbs 0x01FF#16)) sample).1 ≠ .memory 0x0200#16) ∧
      ∃ t : State, exec (.jsr 0x0000#16) sample = .next t ∧ Instr.mnemonic (.jsr 0x0000#16) ∈ Rules.pushers ∧ Rules.page 0x0200#16 ≠ 1 := 
  ⟨⟨_, rfl, by decide, by decide⟩, ⟨_, rfl, by decide, by decide⟩, ⟨_, rfl, by decide, by decide⟩⟩

end Sys2Proof.Tests
end

/-! PROOF. The state after reset (R50, R360) and the invariant of every step boundary (R38, R75): O1, O3, O4, O5. -/

namespace Sys2Proof.Machine

open Sys2Proof.Rules

theorem State.atBoundary_iff (s : State) :
    s.atBoundary = true ↔
      s.p.b = false ∧ s.p.u = true ∧ s.pendingBranchCycle = false ∧ s.pendingOopsCycle = false := by
  simp only [State.atBoundary, Bool.and_eq_true, Bool.not_eq_true', and_assoc]

theorem State.inv_iff (s : State) : s.inv = true ↔ s.atBoundary = true ∧ s.mem.wf = true := by
  simp only [State.inv, Bool.and_eq_true]

theorem prepareStep_p (s : State) : (prepareStep s).p = s.p := by rw [prepareStep_eq]

theorem prepareStep_mem (s : State) : (prepareStep s).mem = s.mem := by rw [prepareStep_eq]

theorem prepareStep_pendingNMI (s : State) : (prepareStep s).pendingNMI = s.pendingNMI := by rw [prepareStep_eq]

theorem prepareStep_pendingIRQ (s : State) : (prepareStep s).pendingIRQ = s.pendingIRQ := by rw [prepareStep_eq]

/-- The one state that a step answers, in the handler's terms. -/
theorem eq_of_step {s t : State} (h : step s = .next t) :
    t = finishStep (opcodeAt s) (handle (fetchInstr s).mnemonic (fetchInstr s).operand (prepareStep s)) := by
  rw [step_eq] at h
  exact (Host.Outcome.next.inj h).symm

/-- The one state that an instruction answers, in the handler's terms. -/
theorem eq_of_exec {i : Instr} {s t : State} (h : exec i s = .next t) : t = handle i.mnemonic i.operand s := by
  rw [exec_eq_handle] at h
  exact (Host.Outcome.next.inj h).symm

/-- The Account phase clears both penalty flags whatever they were (R296), and no later phase sets one. -/
theorem step_clears_penalties {s t : State} (h : step s = .next t) :
    t.pendingBranchCycle = false ∧ t.pendingOopsCycle = false := by
  rw [eq_of_step h]
  exact ⟨finishStep_pendingBranchCycle .., finishStep_pendingOopsCycle ..⟩

theorem step_keeps_atBoundary {s t : State} (hs : s.atBoundary = true) (h : step s = .next t) : t.atBoundary = true := by
  obtain ⟨hb, hu, -, -⟩ := s.atBoundary_iff.mp hs
  obtain ⟨hbranch, hoops⟩ := step_clears_penalties h
  have hb' : t.p.b = false := by
    rw [eq_of_step h, finishStep_p_b]
    exact handle_b _ _ (by rwa [prepareStep_p])
  have hu' : t.p.u = true := by
    rw [eq_of_step h, finishStep_p_u]
    exact handle_u _ _ (by rwa [prepareStep_p])
  exact t.atBoundary_iff.mpr ⟨hb', hu', hbranch, hoops⟩

theorem step_keeps_wf {s t : State} (hs : s.mem.wf = true) (h : step s = .next t) : t.mem.wf = true := by
  rw [eq_of_step h]
  exact finishStep_wf _ (handle_wf _ _ (by rwa [prepareStep_mem]))

theorem resetOp_atBoundary (s : State) : (resetOp s).atBoundary = true := by
  rw [resetOp_eq]
  rfl

/-- Settles O4: the boundary flags and the canonical form of memory are each kept by every step. -/
theorem everyStepKeepsInvariant : Obligations.EveryStepKeepsInvariant := by
  intro s t hs h
  obtain ⟨hbound, hwf⟩ := s.inv_iff.mp hs
  exact t.inv_iff.mpr ⟨step_keeps_atBoundary hbound h, step_keeps_wf hwf h⟩

/-- Settles O5: reset establishes the boundary flags, a step keeps them, and its Account phase clears the penalty flags. -/
theorem boundaryFlagsHoldAtEveryBoundary : Obligations.BoundaryFlagsHoldAtEveryBoundary :=
  ⟨rfl, resetOp_atBoundary, fun _ _ => step_keeps_atBoundary, fun _ _ => step_clears_penalties⟩

/-- Settles O1: the fields as `State.reset` lists them, and the program counter from the bytes 0x00 that the empty memory answers
at the reset vector. -/
theorem resetHoldsTheSpecValues : Obligations.ResetHoldsTheSpecValues :=
  ⟨rfl, rfl, rfl, rfl, rfl, rfl, rfl, rfl, rfl, rfl, rfl, rfl, rfl, rfl⟩

/-- Settles O3: the empty memory is canonical. -/
theorem resetMeetsInvariant : Obligations.ResetMeetsInvariant :=
  State.reset.inv_iff.mpr ⟨rfl, State.reset_mem_wf⟩

end Sys2Proof.Machine

/-! PROOF. Which flags an instruction writes and reads (R28 to R37): O54, O55. The flags a handler leaves are a function of the
flags it finds (`flagsLeft`), and nothing else that it does depends on them but for a branch's condition, the carry of an adder or
a rotate, and a pushed status byte (`handle_setP`). -/

namespace Sys2Proof.Machine

open Sys2Proof.Rules

/-! ### Operands do not depend on the flags -/

theorem place_congr (op : Operand) {s t : State} (hx : s.x = t.x) (hy : s.y = t.y) (hp : s.pc = t.pc) (hb : s.bus = t.bus)
    (hm : s.mem = t.mem) : place op s = place op t := by
  cases op <;> simp only [place, hp, address_congr _ hx hy hp hb hm]

theorem resolved_setP (op : Operand) (q : Flags) (s : State) : resolved op (s.setP q) = (resolved op s).setP q := by
  have hcross : crosses op (s.setP q) = crosses op s := crosses_congr op rfl rfl rfl rfl rfl
  have hreads : resolverReads op (s.setP q) = resolverReads op s := resolverReads_congr op rfl rfl rfl rfl
  rw [resolved, hcross, hreads]
  rfl

theorem resolve_setP (op : Operand) (q : Flags) (s : State) :
    resolve op (s.setP q) = ((resolve op s).1, (resolve op s).2.setP q) := by
  apply Prod.ext
  · rw [resolve_place, resolve_place]
    exact place_congr op rfl rfl rfl rfl rfl
  · rw [resolve_state, resolve_state, resolved_setP]

theorem loadOperand_setP (op : Operand) (q : Flags) (s : State) :
    loadOperand op (s.setP q) = ((loadOperand op s).1, (loadOperand op s).2.setP q) := by
  rw [loadOperand, resolve_setP, loadOperand]
  cases (resolve op s).1 <;> rfl

theorem storeOperand_setP (op : Operand) (v : Byte) (q : Flags) (s : State) :
    storeOperand op v (s.setP q) = (storeOperand op v s).setP q := by
  rw [storeOperand, resolve_setP, storeOperand]
  cases (resolve op s).1 <;> rfl

/-- A read-modify-write whose written byte is the same: only the flags it leaves may differ. -/
theorem modifyOperand_setP {f : State → Byte → Byte} (g : State → Byte → Flags) (op : Operand) {q : Flags} {s : State}
    (hf : f ((loadOperand op s).2.setP q) (loadOperand op s).1 = f (loadOperand op s).2 (loadOperand op s).1) :
    modifyOperand f g op (s.setP q) =
      (modifyOperand f g op s).setP (g ((loadOperand op s).2.setP q) (loadOperand op s).1) := by
  simp only [modifyOperand, loadOperand_setP, resolve_setP, hf]
  cases (resolve op s).1 <;> rfl

theorem branchTo_setP (cond : Bool) (op : Operand) (q : Flags) (s : State) :
    branchTo cond op (s.setP q) = (branchTo cond op s).setP q := by
  cases op
  case relative rel => cases cond <;> rfl
  all_goals rfl

theorem push_setP (v : Byte) (q : Flags) (s : State) : push v (s.setP q) = (push v s).setP q := rfl

theorem pushWord_setP (w : Word) (q : Flags) (s : State) : pushWord w (s.setP q) = (pushWord w s).setP q := rfl

theorem resolveIndirect_eq (ptr : Word) (s : State) :
    resolveIndirect ptr s = (indirectTarget 2 ptr s, resolved (.indirect ptr) s) := by
  have hplace := resolve_place (.indirect ptr) s
  have hstate := resolve_state (.indirect ptr) s
  simp only [resolve, atAddress, place, address, Place.memory.injEq] at hplace hstate
  exact Prod.ext hplace hstate

theorem jumpOperand_setP (op : Operand) (q : Flags) (s : State) :
    jumpOperand op (s.setP q) = (jumpOperand op s).setP q := by
  cases op
  case indirect ptr =>
    simp only [jumpOperand, jumpTo, resolveIndirect_eq, resolved_setP]
    rfl
  all_goals rfl

theorem resolveAbsolute_setP (addr : Word) (q : Flags) (s : State) :
    resolveAbsolute addr (s.setP q) = ((resolveAbsolute addr s).1, (resolveAbsolute addr s).2.setP q) := rfl

theorem jsr_setP (addr : Word) (q : Flags) (s : State) : jsr addr (s.setP q) = (jsr addr s).setP q := by
  simp only [jsr, resolveAbsolute_setP, State.setP_pc, pushWord_setP]
  rfl

/-- Of the flags it finds an interrupt sequence reads the status byte that it pushes alone. -/
theorem takeInterrupt_setP (v : Word) {brk : Bool} {q : Flags} {s : State} (h : packP brk q = packP brk s.p) :
    takeInterrupt v brk (s.setP q) = (takeInterrupt v brk s).setP { q with i := true } := by
  have hf : interruptFrame brk (s.setP q) = interruptFrame brk s := by
    simp only [interruptFrame, State.setP_p, h]
    rfl
  rw [takeInterrupt_eq, takeInterrupt_eq, hf, State.setP_p, h]
  rfl

theorem resolveImplicit_setP (q : Flags) (s : State) : resolveImplicit (s.setP q) = (resolveImplicit s).setP q := rfl

/-- The state that BRK has when its pushes begin (R270). -/
def brkStart (s : State) : State := (s.setPC (s.pc + 1#16 + 1#16)).setP { s.p with b := true }

theorem brk_eq (s : State) :
    brk s = (takeInterrupt irqVector true (brkStart s)).setP
      { (takeInterrupt irqVector true (brkStart s)).p with b := false } := rfl

theorem brk_setP {q : Flags} {s : State} (h : packP true q = packP true s.p) :
    brk (s.setP q) = (brk s).setP { q with i := true, b := false } := by
  have hstart : brkStart (s.setP q) = (brkStart s).setP { q with b := true } := rfl
  have hpush : packP true { q with b := true } = packP true (brkStart s).p := h
  rw [brk_eq, brk_eq, hstart, takeInterrupt_setP _ hpush]
  rfl

/-! ### The flags that a handler leaves -/

/-- The flags that the handler of `m` leaves from the state `s` when it finds the flags `q` (R28 to R35). -/
def flagsLeft (m : Mnemonic) (op : Operand) (s : State) (q : Flags) : Flags :=
  let v := (loadOperand op s).1
  match m with
  | .and => setZN (s.a &&& v) q
  | .ora => setZN (s.a ||| v) q
  | .eor => setZN (s.a ^^^ v) q
  | .asl => shiftedFlags (shiftLeft v) q
  | .lsr => shiftedFlags (shiftRight v) q
  | .rol => shiftedFlags (rotateLeft s.p.c v) q
  | .ror => shiftedFlags (rotateRight s.p.c v) q
  | .cmp => compareFlags s.a v q
  | .cpx => compareFlags s.x v q
  | .cpy => compareFlags s.y v q
  | .bit => bitTestFlags s.a v q
  | .clc => { q with c := false }
  | .cld => { q with d := false }
  | .cli => { q with i := false }
  | .clv => { q with v := false }
  | .sec => { q with c := true }
  | .sed => { q with d := true }
  | .sei => { q with i := true }
  | .adc => { adderFlags s.a v s.p with i := q.i, d := q.d, b := q.b, u := q.u }
  | .sbc => { adderFlags s.a (~~~v) s.p with i := q.i, d := q.d, b := q.b, u := q.u }
  | .lda | .ldx | .ldy => setZN v q
  | .inc => setZN (v + 1#8) q
  | .dec => setZN (v - 1#8) q
  | .inx => setZN (s.x + 1#8) q
  | .iny => setZN (s.y + 1#8) q
  | .dex => setZN (s.x - 1#8) q
  | .dey => setZN (s.y - 1#8) q
  | .tax | .tay => setZN s.a q
  | .txa => setZN s.x q
  | .tya => setZN s.y q
  | .tsx => setZN s.sp q
  | .pla => setZN (pull (resolveImplicit s)).1 q
  | .plp | .rti => unpackP (pull (resolveImplicit s)).1
  | .brk => { q with i := true, b := false }
  | _ => q

/-- The flags `p` and `q` are alike in what an instruction with the mnemonic `m` reads of them. -/
structure ReadAlike (m : Mnemonic) (p q : Flags) : Prop where
  condition : condition m q = condition m p
  carry : m ∈ carryReaders → q.c = p.c
  pushed : m ∈ statusPushers → ∀ b, packP b q = packP b p

/-- Other flags, alike in what the instruction reads, change nothing but the flags it leaves. -/
theorem handle_setP {m : Mnemonic} (op : Operand) {q : Flags} {s : State} (h : ReadAlike m s.p q) :
    handle m op (s.setP q) = (handle m op s).setP (flagsLeft m op s q) := by
  obtain ⟨hcond, hcarry, hpushed⟩ := h
  cases m
  case and | ora | eor =>
    simp only [handle, andA, oraA, eorA, combineA, loadOperand_setP, flagsLeft, State.setP_a, State.setP_p, loadOperand_a]
    rfl
  case lda | ldx | ldy =>
    simp only [handle, lda, ldx, ldy, loadOperand_setP, flagsLeft, State.setP_p]
    rfl
  case cmp | cpx | cpy | bit =>
    simp only [handle, cmp, cpx, cpy, bitTest, compareWith, loadOperand_setP, flagsLeft, State.setP_a, State.setP_p, State.setP_x,
      State.setP_y, loadOperand_a]
    rfl
  case adc | sbc =>
    have hc : q.c = s.p.c := hcarry (by decide)
    simp only [handle, adc, sbc, addWithCarry, loadOperand_setP, flagsLeft, State.setP_a, State.setP_p, loadOperand_a,
      loadOperand_p, adderFlags, hc]
    rfl
  case asl | lsr =>
    simp only [handle, asl, lsr, shiftOperand, flagsLeft]
    exact modifyOperand_setP _ op rfl
  case rol | ror =>
    have hc : q.c = s.p.c := hcarry (by decide)
    simp only [handle, rol, ror, shiftOperand, flagsLeft]
    rw [modifyOperand_setP _ op (by simp [hc])]
    simp [hc]
  case inc | dec =>
    simp only [handle, inc, dec, flagsLeft]
    exact modifyOperand_setP _ op rfl
  case sta | stx | sty =>
    simp only [handle, sta, stx, sty, flagsLeft, storeOperand_setP, State.setP_a, State.setP_x, State.setP_y]
  case bpl | bmi | bvc | bvs | bcc | bcs | bne | beq =>
    simp only [condition, Option.some.injEq] at hcond
    simp only [handle, branchTo_setP, State.setP_p, hcond, flagsLeft]
  case jmp => exact jumpOperand_setP op q s
  case jsr =>
    cases op
    case absolute addr => exact jsr_setP addr q s
    all_goals rfl
  case php =>
    have hb : packP false q = packP false s.p := hpushed (by decide) false
    simp only [handle, php, resolveImplicit_setP, State.setP_p, resolveImplicit_p, hb, push_setP, flagsLeft]
  case brk => exact brk_setP (hpushed (by decide) true)
  case clc | cld | cli | clv | sec | sed | sei | nop | pha | pla | plp | rts | rti => rfl
  case inx | iny | dex | dey | tax | tay | txa | tya | tsx | txs => rfl
  all_goals simp only [handle, illegal, resolve_setP, flagsLeft]

theorem readAlike_refl (m : Mnemonic) (p : Flags) : ReadAlike m p p := ⟨rfl, fun _ => rfl, fun _ _ => rfl⟩

/-- A handler leaves `flagsLeft` of the flags it finds. -/
theorem handle_p (m : Mnemonic) (op : Operand) (s : State) : (handle m op s).p = flagsLeft m op s s.p :=
  congrArg State.p (handle_setP op (readAlike_refl m s.p))

/-! ### One flag at a time -/

/-- The eight flags (R28 to R35). -/
inductive Flag where
  | c | z | i | d | b | u | v | n

/-- The value of a flag. -/
def Flag.get (f : Flag) (p : Flags) : Bool :=
  match f with
  | .c => p.c
  | .z => p.z
  | .i => p.i
  | .d => p.d
  | .b => p.b
  | .u => p.u
  | .v => p.v
  | .n => p.n

/-- The flags with one of them replaced. -/
def Flag.put (f : Flag) (v : Bool) (p : Flags) : Flags :=
  match f with
  | .c => { p with c := v }
  | .z => { p with z := v }
  | .i => { p with i := v }
  | .d => { p with d := v }
  | .b => { p with b := v }
  | .u => { p with u := v }
  | .v => { p with v := v }
  | .n => { p with n := v }

/-- The instructions that write a flag (R28 to R35). -/
def Flag.writers (f : Flag) : List Mnemonic :=
  match f with
  | .c => carryWriters
  | .z | .n => zeroNegativeWriters
  | .i => interruptDisableWriters
  | .d => decimalWriters
  | .b => breakWriters
  | .u => unusedWriters
  | .v => overflowWriters

/-- The instructions that read a flag (R28 to R36): none reads the stored Break or Unused. -/
def Flag.readers (f : Flag) : List Mnemonic :=
  match f with
  | .c => carryReaders
  | .z => zeroReaders
  | .i | .d => statusPushers
  | .b | .u => []
  | .v => overflowReaders
  | .n => negativeReaders

theorem Flag.put_get (f : Flag) (p : Flags) : f.put (f.get p) p = p := by cases f <;> rfl

theorem Flag.get_put (f : Flag) (v : Bool) (p : Flags) : f.get (f.put v p) = v := by cases f <;> rfl

/-- The table of `flagsLeft` against the lists of writers, each mnemonic with each flag: a writer does not keep the flag it finds,
and no other mnemonic does anything but keep it. -/
theorem flagsLeft_put (f : Flag) (v : Bool) (m : Mnemonic) (op : Operand) (s : State) (q : Flags) :
    flagsLeft m op s (f.put v q) =
      if m ∈ f.writers then flagsLeft m op s q else f.put v (flagsLeft m op s q) := by
  cases m <;> cases f <;> rfl

theorem flagsLeft_get {f : Flag} {m : Mnemonic} (h : m ∉ f.writers) (op : Operand) (s : State) (q : Flags) :
    f.get (flagsLeft m op s q) = f.get q := by
  have hput := flagsLeft_put f (f.get q) m op s q
  rw [f.put_get, if_neg h] at hput
  rw [hput, f.get_put]

theorem Flag.get_put_of_ne {f g : Flag} (h : f ≠ g) (v : Bool) (p : Flags) : g.get (f.put v p) = g.get p := by
  revert h
  cases f <;> cases g <;> simp [Flag.get, Flag.put]

theorem Flag.get_put_of_reader {f g : Flag} {m : Mnemonic} (hf : m ∉ f.readers) (hg : m ∈ g.readers) (v : Bool) (p : Flags) :
    g.get (f.put v p) = g.get p :=
  Flag.get_put_of_ne (by rintro rfl; exact hf hg) v p

/-- The flags of a pushed status byte: all but Break and Unused (R36). -/
theorem packP_congr {p q : Flags} (h : ∀ f : Flag, .php ∈ f.readers → f.get q = f.get p) (b : Bool) :
    packP b q = packP b p := by
  have hc : q.c = p.c := h .c (by decide)
  have hz : q.z = p.z := h .z (by decide)
  have hi : q.i = p.i := h .i (by decide)
  have hd : q.d = p.d := h .d (by decide)
  have hv : q.v = p.v := h .v (by decide)
  have hn : q.n = p.n := h .n (by decide)
  simp only [packP, hc, hz, hi, hd, hv, hn]

theorem condition_congr {m : Mnemonic} {p q : Flags} (h : ∀ f : Flag, m ∈ f.readers → f.get q = f.get p) :
    condition m q = condition m p := by
  cases m
  case bpl | bmi => simp only [condition, show q.n = p.n from h .n (by decide)]
  case bvc | bvs => simp only [condition, show q.v = p.v from h .v (by decide)]
  case bcc | bcs => simp only [condition, show q.c = p.c from h .c (by decide)]
  case bne | beq => simp only [condition, show q.z = p.z from h .z (by decide)]
  all_goals rfl

/-- A push of the status reads the flags that PHP reads. -/
theorem Flag.reader_of_pusher {f : Flag} {m : Mnemonic} (hm : m ∈ statusPushers) (hf : .php ∈ f.readers) : m ∈ f.readers := by
  simp only [statusPushers, List.mem_cons, List.not_mem_nil, or_false] at hm
  obtain rfl | rfl := hm
  · exact hf
  · revert hf
    cases f <;> decide

/-- A flag that an instruction does not read can have either value. -/
theorem readAlike_put {f : Flag} {m : Mnemonic} (h : m ∉ f.readers) (v : Bool) (p : Flags) : ReadAlike m p (f.put v p) where
  condition := condition_congr fun _ hg => Flag.get_put_of_reader h hg v p
  carry hm := Flag.get_put_of_reader (g := .c) h hm v p
  pushed hm b := packP_congr (fun _ hg => Flag.get_put_of_reader h (Flag.reader_of_pusher hm hg) v p) b

/-- No instruction writes a flag that the flag's rule does not list it for. -/
theorem exec_keeps_flag {f : Flag} {i : Instr} {s t : State} (h : exec i s = .next t) (hw : i.mnemonic ∉ f.writers) :
    f.get t.p = f.get s.p := by
  rw [eq_of_exec h, handle_p, flagsLeft_get hw]

/-- What a handler that does not read a flag does from two states that differ in it. -/
theorem handle_put_flag {f : Flag} {m : Mnemonic} (hr : m ∉ f.readers) (op : Operand) (v : Bool) (s : State) :
    handle m op (s.setP (f.put v s.p)) =
      if m ∈ f.writers then handle m op s else (handle m op s).setP (f.put v (handle m op s).p) := by
  rw [handle_setP op (readAlike_put hr v s.p), flagsLeft_put, ← handle_p]
  split <;> rfl

theorem exec_put_flag {f : Flag} {i : Instr} {s t : State} (h : exec i s = .next t) (hr : i.mnemonic ∉ f.readers) (v : Bool) :
    exec i (s.setP (f.put v s.p)) =
      .next (if i.mnemonic ∈ f.writers then t else t.setP (f.put v t.p)) := by
  rw [exec_eq_handle, handle_put_flag hr, eq_of_exec h]

/-- Settles O54: the eight flags one by one. -/
theorem flagWriters : Obligations.FlagWriters := fun _ _ _ h =>
  ⟨exec_keeps_flag (f := .c) h, exec_keeps_flag (f := .z) h, exec_keeps_flag (f := .i) h, exec_keeps_flag (f := .d) h,
    exec_keeps_flag (f := .v) h, exec_keeps_flag (f := .n) h, exec_keeps_flag (f := .b) h, exec_keeps_flag (f := .u) h⟩

/-- Settles O55: the eight flags one by one; Break and Unused have no reader. -/
theorem flagReaders : Obligations.FlagReaders := fun _ _ _ v h =>
  ⟨fun hr => exec_put_flag (f := .c) h hr v, fun hr => exec_put_flag (f := .z) h hr v,
    fun hr => exec_put_flag (f := .i) h hr v, fun hr => exec_put_flag (f := .d) h hr v,
    fun hr => exec_put_flag (f := .v) h hr v, fun hr => exec_put_flag (f := .n) h hr v,
    exec_put_flag (f := .b) h List.not_mem_nil v, exec_put_flag (f := .u) h List.not_mem_nil v⟩

end Sys2Proof.Machine

/-! PROOF. Which instructions write and read A, X, Y and S (R21 to R24): O51, O52, O53. -/

namespace Sys2Proof.Machine

open Sys2Proof.Rules

/-! ### The modes of a mnemonic's rows, as far as its handler depends on them -/

/-- The modes that rows of a mnemonic may have (R103), where its handler does what its rule says in those modes alone: one without
an operand runs the Implicit resolver whatever the mode, one with an operand reads or writes the accumulator where there is no
address, and a branch or jump has a resolver of its own. -/
def fitsMode (m : Mnemonic) (mode : Mode) : Bool :=
  match m with
  | .bpl | .bmi | .bvc | .bvs | .bcc | .bcs | .bne | .beq => decide (mode = .relative)
  | .jmp => decide (mode = .absolute ∨ mode = .indirect)
  | .jsr => decide (mode = .absolute)
  | .asl | .lsr | .rol | .ror => decide (mode ≠ .implicit)
  | .and | .ora | .eor | .cmp | .cpx | .cpy | .bit | .adc | .sbc | .lda | .ldx | .ldy | .sta | .stx | .sty | .inc | .dec =>
    decide (mode ≠ .implicit ∧ mode ≠ .accumulator)
  | .illSlo | .illRla | .illSre | .illRra | .illSax | .illLax | .illLxa | .illDcp | .illIsc | .illAnc | .illAlr
  | .illArr | .illAne | .illSbx | .illUsbc | .illSha | .illShx | .illShy | .illTas | .illLas | .illNop | .illKil => true
  | _ => decide (mode = .implicit)

theorem fitsMode_instr (i : Instr) : fitsMode i.mnemonic (operandMode i.operand) = true := by
  cases i <;> rfl

/-! ### One register at a time -/

/-- The four byte registers (R21 to R24). -/
inductive Reg where
  | a | x | y | s

/-- The value of a register. -/
def Reg.get (r : Reg) (s : State) : Byte :=
  match r with
  | .a => s.a
  | .x => s.x
  | .y => s.y
  | .s => s.sp

/-- The state with one register replaced. -/
def Reg.put (r : Reg) (v : Byte) (s : State) : State :=
  match r with
  | .a => s.setA v
  | .x => s.setX v
  | .y => s.setY v
  | .s => s.setS v

/-- The instructions that write a register in every mode (R21 to R24). -/
def Reg.writers (r : Reg) : List Mnemonic :=
  match r with
  | .a => accumulatorWriters
  | .x => xWriters
  | .y => yWriters
  | .s => .txs :: stackUsers

/-- The instructions that read a register in every mode (R21 to R24). -/
def Reg.readers (r : Reg) : List Mnemonic :=
  match r with
  | .a => accumulatorReaders
  | .x => xReaders
  | .y => yReaders
  | .s => .tsx :: stackUsers

/-- The modes in which the operand depends on a register (R123, R129 to R134). -/
def Reg.modes (r : Reg) : List Mode :=
  match r with
  | .a => [.accumulator]
  | .x => [.absoluteX, .zeroPageX, .indexedIndirectX]
  | .y => [.absoluteY, .zeroPageY, .indirectIndexedY]
  | .s => []

/-! ### What an instruction does not write -/

/-- An operand in a mode other than Implicit and Accumulator has an address (R120). -/
theorem place_ne_noAddress {op : Operand} (hi : operandMode op ≠ .implicit) (ha : operandMode op ≠ .accumulator) (s : State) :
    place op s ≠ .noAddress := by
  cases op <;> simp_all [operandMode, place, address]

theorem writeOperand_a {pl : Place} (h : pl ≠ .noAddress) (v : Byte) (s : State) : (writeOperand pl v s).a = s.a := by
  cases pl
  case noAddress => exact absurd rfl h
  all_goals rfl

theorem storeOperand_a {op : Operand} {s : State} (h : place op s ≠ .noAddress) (v : Byte) : (storeOperand op v s).a = s.a := by
  rw [storeOperand, writeOperand_a (by rwa [resolve_place]), resolve_a]

theorem modifyOperand_a {op : Operand} {s : State} (h : place op s ≠ .noAddress) (f : State → Byte → Byte)
    (g : State → Byte → Flags) : (modifyOperand f g op s).a = s.a := by
  rw [modifyOperand, State.setP_a, writeOperand_a (by rwa [resolve_place]), loadOperand_a]

theorem Reg.get_branchTo (r : Reg) (cond : Bool) (op : Operand) (s : State) : r.get (branchTo cond op s) = r.get s := by
  cases op
  case relative rel => cases r <;> simp [branchTo, Reg.get]
  all_goals rfl

theorem Reg.get_jumpOperand (r : Reg) (op : Operand) (s : State) : r.get (jumpOperand op s) = r.get s := by
  cases op
  case absolute | indirect => cases r <;> simp [jumpOperand, jumpTo, Reg.get]
  all_goals rfl

/-- JSR leaves every register but S alone. -/
theorem Reg.get_jsrOperand {r : Reg} (h : r ≠ .s) (op : Operand) (s : State) : r.get (jsrOperand op s) = r.get s := by
  cases op
  case absolute addr =>
    cases r
    case s => exact absurd rfl h
    all_goals simp [jsrOperand, Reg.get]
  all_goals rfl

/-- A register is left alone by every handler that does not write it: for A, a shift on the accumulator counts as one that does. -/
theorem Reg.get_handle {r : Reg} {m : Mnemonic} {op : Operand} (s : State) (hfit : fitsMode m (operandMode op) = true)
    (hw : m ∉ r.writers) (hshift : r = .a → m ∈ shifts → operandMode op ≠ .accumulator) :
    r.get (handle m op s) = r.get s := by
  cases m
  case bpl | bmi | bvc | bvs | bcc | bcs | bne | beq => exact r.get_branchTo _ op s
  case jmp => exact r.get_jumpOperand op s
  case jsr => exact Reg.get_jsrOperand (by rintro rfl; exact hw (by decide)) op s
  case asl | lsr | rol | ror =>
    cases r
    case a =>
      simp only [fitsMode, decide_eq_true_eq] at hfit
      exact modifyOperand_a (place_ne_noAddress hfit (hshift rfl (by decide)) s) ..
    all_goals simp [handle, Reg.get]
  case inc | dec =>
    cases r
    case a =>
      simp only [fitsMode, decide_eq_true_eq] at hfit
      exact modifyOperand_a (place_ne_noAddress hfit.1 hfit.2 s) ..
    all_goals simp [handle, Reg.get]
  case sta | stx | sty =>
    cases r
    case a =>
      simp only [fitsMode, decide_eq_true_eq] at hfit
      exact storeOperand_a (place_ne_noAddress hfit.1 hfit.2 s) _
    all_goals simp [handle, Reg.get]
  all_goals
    cases r <;> simp [Reg.writers, accumulatorWriters, xWriters, yWriters, stackUsers] at hw
    all_goals simp [handle, Reg.get]

/-! ### What an instruction does not read -/

/-- What a resolver does depends on a register only in the register's modes. -/
theorem Reg.resolver_put {r : Reg} {op : Operand} (h : operandMode op ∉ r.modes) (v : Byte) (s : State) :
    place op (r.put v s) = place op s ∧ crosses op (r.put v s) = crosses op s ∧
      resolverReads op (r.put v s) = resolverReads op s := by
  cases r
  case a | s =>
    exact ⟨place_congr op rfl rfl rfl rfl rfl, crosses_congr op rfl rfl rfl rfl rfl, resolverReads_congr op rfl rfl rfl rfl⟩
  case x | y => cases op <;> simp [operandMode, Reg.modes] at h <;> exact ⟨rfl, rfl, rfl⟩

theorem Reg.resolve_put {r : Reg} {op : Operand} (h : operandMode op ∉ r.modes) (v : Byte) (s : State) :
    resolve op (r.put v s) = ((resolve op s).1, r.put v (resolve op s).2) := by
  obtain ⟨hplace, hcross, hreads⟩ := Reg.resolver_put h v s
  apply Prod.ext
  · rw [resolve_place, resolve_place, hplace]
  · rw [resolve_state, resolve_state, resolved, hcross, hreads]
    cases r <;> rfl

/-- An operand in none of A's modes, and not Implicit, is not the accumulator. -/
theorem Reg.ne_a_or_address {r : Reg} {op : Operand} (h : operandMode op ∉ r.modes) (hi : operandMode op ≠ .implicit)
    (s : State) : r ≠ .a ∨ place op s ≠ .noAddress := by
  cases r
  case a => exact .inr (place_ne_noAddress hi (by simpa [Reg.modes] using h) s)
  all_goals exact .inl (by simp)

theorem Reg.readOperand_put {r : Reg} {pl : Place} (h : r ≠ .a ∨ pl ≠ .noAddress) (v : Byte) (s : State) :
    readOperand pl (r.put v s) = ((readOperand pl s).1, r.put v (readOperand pl s).2) := by
  cases pl
  case noAddress => cases r <;> simp at h <;> rfl
  all_goals cases r <;> rfl

theorem Reg.writeOperand_put {r : Reg} {pl : Place} (h : r ≠ .a ∨ pl ≠ .noAddress) (w v : Byte) (s : State) :
    writeOperand pl w (r.put v s) = r.put v (writeOperand pl w s) := by
  cases pl
  case noAddress => cases r <;> simp at h <;> rfl
  all_goals cases r <;> rfl

section
variable {r : Reg} {op : Operand} (h : operandMode op ∉ r.modes) (hi : operandMode op ≠ .implicit)
include h hi

theorem Reg.loadOperand_put (v : Byte) (s : State) :
    loadOperand op (r.put v s) = ((loadOperand op s).1, r.put v (loadOperand op s).2) := by
  rw [loadOperand, Reg.resolve_put h, loadOperand, Reg.readOperand_put]
  rw [resolve_place]
  exact Reg.ne_a_or_address h hi s

theorem Reg.storeOperand_put (w v : Byte) (s : State) :
    storeOperand op w (r.put v s) = r.put v (storeOperand op w s) := by
  rw [storeOperand, Reg.resolve_put h, storeOperand, Reg.writeOperand_put]
  rw [resolve_place]
  exact Reg.ne_a_or_address h hi s

/-- A read-modify-write whose written byte and flags do not depend on the register. -/
theorem Reg.modifyOperand_put {f : State → Byte → Byte} {g : State → Byte → Flags} {v : Byte}
    (hf : ∀ t w, f (r.put v t) w = f t w) (hg : ∀ t w, g (r.put v t) w = g t w) (s : State) :
    modifyOperand f g op (r.put v s) = r.put v (modifyOperand f g op s) := by
  have hp : r ≠ .a ∨ (resolve op s).1 ≠ .noAddress := by
    rw [resolve_place]
    exact Reg.ne_a_or_address h hi s
  simp only [modifyOperand, Reg.loadOperand_put h hi, Reg.resolve_put h, Reg.writeOperand_put hp, hf, hg]
  cases r <;> rfl

end

theorem Reg.p_put (r : Reg) (v : Byte) (s : State) : (r.put v s).p = s.p := by cases r <;> rfl

theorem Reg.pc_put (r : Reg) (v : Byte) (s : State) : (r.put v s).pc = s.pc := by cases r <;> rfl

/-- What a branch does depends on no register. -/
theorem Reg.branchTo_put (r : Reg) (cond : Bool) (v : Byte) (op : Operand) (s : State) :
    branchTo cond op (r.put v s) = r.put v (branchTo cond op s) := by
  cases op
  case relative rel => cases cond <;> cases r <;> rfl
  all_goals rfl

theorem Reg.jumpOperand_put (r : Reg) (v : Byte) (op : Operand) (s : State) :
    jumpOperand op (r.put v s) = r.put v (jumpOperand op s) := by
  cases op
  case absolute addr => cases r <;> rfl
  case indirect ptr =>
    simp only [jumpOperand, jumpTo, resolveIndirect_eq]
    cases r <;> rfl
  all_goals rfl

/-! ### Pushes and pulls depend on S alone -/

theorem Reg.pushWord_put {r : Reg} (h : r ≠ .s) (w : Word) (v : Byte) (s : State) :
    pushWord w (r.put v s) = r.put v (pushWord w s) := by
  rw [pushWord_eq, pushWord_eq]
  cases r
  case s => exact absurd rfl h
  all_goals rfl

theorem Reg.jsrOperand_put {r : Reg} (h : r ≠ .s) (v : Byte) (op : Operand) (s : State) :
    jsrOperand op (r.put v s) = r.put v (jsrOperand op s) := by
  cases op
  case absolute addr =>
    have hres : resolveAbsolute addr (r.put v s) = ((resolveAbsolute addr s).1, r.put v (resolveAbsolute addr s).2) := by
      cases r <;> rfl
    simp only [jsrOperand, jsr, hres, Reg.pc_put, Reg.pushWord_put h]
    cases r <;> rfl
  all_goals rfl

theorem Reg.brk_put {r : Reg} (h : r ≠ .s) (v : Byte) (s : State) : brk (r.put v s) = r.put v (brk s) := by
  simp only [brk_eq, takeInterrupt_eq]
  cases r
  case s => exact absurd rfl h
  all_goals rfl

/-- What an instruction that does not read a register does from two states that differ in it. -/
theorem Reg.handle_put {r : Reg} {m : Mnemonic} {op : Operand} (hfit : fitsMode m (operandMode op) = true) (hr : m ∉ r.readers)
    (hmode : operandMode op ∉ r.modes) (v : Byte) (s : State) :
    handle m op (r.put v s) = if m ∈ r.writers then handle m op s else r.put v (handle m op s) := by
  cases m
  case and | ora | eor | adc | sbc | cmp | cpx | cpy | bit | lda | ldx | ldy =>
    simp only [fitsMode, decide_eq_true_eq] at hfit
    simp only [handle, andA, oraA, eorA, combineA, adc, sbc, addWithCarry, cmp, cpx, cpy, compareWith, bitTest, lda, ldx, ldy,
      Reg.loadOperand_put hmode hfit.1, Reg.p_put]
    cases r <;> simp [Reg.readers, accumulatorReaders, xReaders, yReaders] at hr <;> rfl
  case sta | stx | sty =>
    simp only [fitsMode, decide_eq_true_eq] at hfit
    simp only [handle, sta, stx, sty, Reg.storeOperand_put hmode hfit.1]
    cases r <;> simp [Reg.readers, accumulatorReaders, xReaders, yReaders] at hr <;> rfl
  case asl | lsr | rol | ror =>
    simp only [fitsMode, decide_eq_true_eq] at hfit
    simp only [handle, asl, lsr, rol, ror, shiftOperand]
    rw [Reg.modifyOperand_put hmode hfit (by simp [Reg.p_put]) (by simp [Reg.p_put])]
    cases r <;> rfl
  case inc | dec =>
    simp only [fitsMode, decide_eq_true_eq] at hfit
    simp only [handle, inc, dec]
    rw [Reg.modifyOperand_put hmode hfit.1 (by simp) (by simp [Reg.p_put])]
    cases r <;> rfl
  case bpl | bmi | bvc | bvs | bcc | bcs | bne | beq =>
    simp only [handle, Reg.p_put, Reg.branchTo_put]
    cases r <;> rfl
  case jmp =>
    simp only [handle, Reg.jumpOperand_put]
    cases r <;> rfl
  case jsr | brk =>
    have hs : r ≠ .s := by
      rintro rfl
      exact hr (by decide)
    simp only [handle, Reg.jsrOperand_put hs, Reg.brk_put hs]
    cases r <;> simp at hs <;> rfl
  case clc | cld | cli | clv | sec | sed | sei | nop => cases r <;> rfl
  case rts | rti | inx | iny | dex | dey | tax | tay | txa | tya | tsx | txs | pha | php | pla | plp =>
    cases r <;> simp [Reg.readers, accumulatorReaders, xReaders, yReaders, stackUsers] at hr <;> rfl
  all_goals
    simp only [handle, illegal, Reg.resolve_put hmode]
    cases r <;> rfl

theorem exec_keeps_reg {r : Reg} {i : Instr} {s t : State} (h : exec i s = .next t) (hw : i.mnemonic ∉ r.writers)
    (hshift : r = .a → i.mnemonic ∈ shifts → operandMode i.operand ≠ .accumulator) : r.get t = r.get s := by
  rw [eq_of_exec h, Reg.get_handle s (fitsMode_instr i) hw hshift]

theorem exec_put_reg {r : Reg} {i : Instr} {s t : State} (h : exec i s = .next t) (hr : i.mnemonic ∉ r.readers)
    (hmode : operandMode i.operand ∉ r.modes) (v : Byte) :
    exec i (r.put v s) = .next (if i.mnemonic ∈ r.writers then t else r.put v t) := by
  rw [exec_eq_handle, Reg.handle_put (fitsMode_instr i) hr hmode, eq_of_exec h]

/-! ### The obligations -/

/-- Settles O51: the two lemmas about a register, for A. -/
theorem accumulatorWritersAndReaders : Obligations.AccumulatorWritersAndReaders := by
  refine ⟨fun i s t h hw hshift => ?_, fun i s t v h hr hmode => ?_, rfl, fun s => ?_⟩
  · exact exec_keeps_reg (r := .a) h hw fun _ hm ha => hshift ⟨hm, ha⟩
  · exact exec_put_reg (r := .a) h hr (by simpa [Reg.modes] using hmode) v
  · rw [resetOp_eq]
    rfl

/-- Settles O52: the two lemmas about a register, for X and for Y. -/
theorem indexWritersAndReaders : Obligations.IndexWritersAndReaders := by
  refine ⟨fun i s t h hw => ?_, fun i s t v h hr h1 h2 h3 => ?_, fun i s t h hw => ?_, fun i s t v h hr h1 h2 h3 => ?_,
    rfl, rfl, fun s => ?_⟩
  · exact exec_keeps_reg (r := .x) h hw (by simp)
  · exact exec_put_reg (r := .x) h hr (by simp [Reg.modes, h1, h2, h3]) v
  · exact exec_keeps_reg (r := .y) h hw (by simp)
  · exact exec_put_reg (r := .y) h hr (by simp [Reg.modes, h1, h2, h3]) v
  · rw [resetOp_eq]
    exact ⟨rfl, rfl⟩

/-- Settles O53: the two lemmas about a register, for S, and the one write of a push at an address of page one. -/
theorem stackPointerWritersAndReaders : Obligations.StackPointerWritersAndReaders := by
  refine ⟨fun i s t h hstack htxs => ?_, fun i s t v h hstack htsx => ?_, fun v s b hb => ?_, rfl⟩
  · exact exec_keeps_reg (r := .s) h (by simp [Reg.writers, hstack, htxs]) (by simp)
  · have hput := exec_put_reg (r := .s) h (by simp [Reg.readers, hstack, htsx]) (by simp [Reg.modes]) v
    have hw : i.mnemonic ∈ Reg.s.writers ↔ i.mnemonic = .txs := by simp [Reg.writers, hstack]
    exact hput.trans (congrArg _ (if_congr hw rfl rfl))
  · exact storeByte_other _ _ _ (ne_stackAddr hb _)

end Sys2Proof.Machine

/-! PROOF. An instruction leaves the engine's own fields alone and only adds to the penalty flags (R41 to R46): O57. -/

namespace Sys2Proof.Machine

open Sys2Proof.Rules

/-! ### The penalty flags -/

theorem resolve_pendingOopsCycle (op : Operand) (s : State) :
    (resolve op s).2.pendingOopsCycle = (s.pendingOopsCycle || crosses op s) := by
  rw [resolve_state]
  rfl

theorem loadOperand_pendingOopsCycle (op : Operand) (s : State) :
    (loadOperand op s).2.pendingOopsCycle = (s.pendingOopsCycle || crosses op s) := by
  rw [loadOperand, readOperand_pendingOopsCycle, resolve_pendingOopsCycle]

/-- The page-cross flag is set by the resolver alone, and the resolver sets it when its mode crosses a page (R42, R121). -/
theorem handle_pendingOopsCycle {m : Mnemonic} {op : Operand} (hfit : fitsMode m (operandMode op) = true) (s : State) :
    (handle m op s).pendingOopsCycle = (s.pendingOopsCycle || crosses op s) := by
  cases m
  case and | ora | eor => simp [handle, andA, oraA, eorA, combineA, loadOperand_pendingOopsCycle]
  case adc | sbc => simp [handle, adc, sbc, loadOperand_pendingOopsCycle]
  case lda | ldx | ldy => simp [handle, lda, ldx, ldy, loadOperand_pendingOopsCycle]
  case cmp | cpx | cpy | bit => simp [handle, cmp, cpx, cpy, compareWith, bitTest, loadOperand_pendingOopsCycle]
  case sta | stx | sty => simp [handle, sta, stx, sty, storeOperand, resolve_pendingOopsCycle]
  case asl | lsr | rol | ror | inc | dec =>
    simp [handle, asl, lsr, rol, ror, shiftOperand, inc, dec, modifyOperand, loadOperand_pendingOopsCycle]
  case bpl | bmi | bvc | bvs | bcc | bcs | bne | beq =>
    cases op <;> simp [fitsMode, operandMode] at hfit
    simp only [handle, branchTo, branch_eq]
    split <;> rfl
  case jmp =>
    cases op <;> simp [fitsMode, operandMode] at hfit
    all_goals simp [handle, jumpOperand, jumpTo, crosses]
  case jsr =>
    cases op <;> simp [fitsMode, operandMode] at hfit
    simp [handle, jsrOperand, crosses]
  case illSlo | illRla | illSre | illRra | illSax | illLax | illLxa | illDcp | illIsc | illAnc | illAlr | illArr | illAne | illSbx
      | illUsbc | illSha | illShx | illShy | illTas | illLas | illNop | illKil =>
    exact resolve_pendingOopsCycle op s
  all_goals
    cases op <;> simp [fitsMode, operandMode] at hfit
    simp [handle, crosses]

/-- The branch-taken flag is set by a branch whose condition holds, and by nothing else (R41, R170). -/
theorem handle_pendingBranchCycle {m : Mnemonic} {op : Operand} (hfit : fitsMode m (operandMode op) = true) (s : State) :
    (handle m op s).pendingBranchCycle = (s.pendingBranchCycle || (condition m s.p == some true)) := by
  cases m
  case bpl | bmi | bvc | bvs | bcc | bcs | bne | beq =>
    cases op <;> simp [fitsMode, operandMode] at hfit
    simp only [handle, branchTo, branch_eq, condition]
    split <;> simp_all [resolved]
  case jmp =>
    cases op <;> simp [fitsMode, operandMode] at hfit
    all_goals simp [handle, jumpOperand, jumpTo, condition]
  case jsr =>
    cases op <;> simp [fitsMode, operandMode] at hfit
    simp [handle, jsrOperand, condition]
  all_goals simp [handle, condition]

/-- Settles O57: no handler writes a field of the engine, the branches alone set the branch-taken flag, and the resolvers alone set
the page-cross flag. -/
theorem instructionsLeaveTheEngineAlone : Obligations.InstructionsLeaveTheEngineAlone := by
  intro i s t h
  obtain rfl := eq_of_exec h
  exact ⟨handle_pendingNMI .., handle_pendingIRQ .., handle_dmaCycles .., handle_cycleCount .., handle_stepCycles ..,
    handle_params .., handle_pendingBranchCycle (fitsMode_instr i) s, handle_pendingOopsCycle (fitsMode_instr i) s⟩

end Sys2Proof.Machine

/-! PROOF. D changes no result of a step (R31, R220): O56. Two states that differ in D and in bit 3 of some bytes of the stack page
(`DecimalTwins`) stay so through every phase, and only a pushed status byte adds an address to the list. -/

namespace Sys2Proof.Machine

open Sys2Proof.Rules

/-! ### Memories that differ in bit 3 -/

/-- The memory `n` is `m` but for bit 3 of bytes at addresses in `P`. -/
def SameButBit3 (P : Word → Prop) (m n : Memory) : Prop :=
  ∀ b : Word, n.read b = m.read b ∨ n.read b ||| 0x08#8 = m.read b ||| 0x08#8 ∧ P b

theorem SameButBit3.mono {P Q : Word → Prop} {m n : Memory} (h : SameButBit3 P m n) (hPQ : ∀ b, P b → Q b) :
    SameButBit3 Q m n :=
  fun b => (h b).imp_right fun ⟨hbit, hP⟩ => ⟨hbit, hPQ b hP⟩

/-- One write of the same byte. -/
theorem SameButBit3.store {P : Word → Prop} {m n : Memory} (h : SameButBit3 P m n) (g : Bool) (a : Word) (v : Byte) :
    SameButBit3 P (storeByte g m a v) (storeByte g n a v) := by
  intro b
  cases g
  · by_cases hb : b = a
    · subst hb
      exact .inl (by rw [storeByte_same, storeByte_same]; rfl)
    · rw [storeByte_other _ _ _ hb, storeByte_other _ _ _ hb]
      exact h b
  · exact h b

/-- One write of two bytes that differ in bit 3. -/
theorem SameButBit3.store_bit3 {P : Word → Prop} {m n : Memory} (h : SameButBit3 P m n) (g : Bool) (a : Word) {v w : Byte}
    (hvw : w ||| 0x08#8 = v ||| 0x08#8) :
    SameButBit3 (fun b => P b ∨ b = a) (storeByte g m a v) (storeByte g n a w) := by
  have hmono : SameButBit3 (fun b => P b ∨ b = a) m n := h.mono fun _ => Or.inl
  intro b
  cases g
  · by_cases hb : b = a
    · subst hb
      refine .inr ⟨?_, .inr rfl⟩
      rw [storeByte_same, storeByte_same]
      exact hvw
    · rw [storeByte_other _ _ _ hb, storeByte_other _ _ _ hb]
      exact hmono b
  · exact hmono b

/-- Outside the stack page the two memories read alike. -/
theorem SameButBit3.read_eq {P : Word → Prop} {m n : Memory} (h : SameButBit3 P m n) (hP : ∀ b, P b → page b = 1) {a : Word}
    (ha : page a ≠ 1) : n.read a = m.read a :=
  (h a).resolve_right fun ⟨_, hPa⟩ => ha (hP a hPa)

/-- D is bit 3 of a status byte (R27, R36). -/
theorem packP_bit3 (b d : Bool) (p : Flags) : packP b { p with d := d } ||| 0x08#8 = packP b p ||| 0x08#8 := by
  obtain ⟨c, z, i, d', b', u, v, n⟩ := p
  have h : ∀ c z i d d' b v n : Bool, packP b ⟨c, z, i, d, false, false, v, n⟩ ||| 0x08#8 =
      packP b ⟨c, z, i, d', false, false, v, n⟩ ||| 0x08#8 := by decide
  exact h c z i d d' b v n

/-! ### States that differ in D -/

/-- The state `t` is `s` but for D, for bit 3 of bytes of memory at addresses in `P`, and for the bytes in the log. -/
def DecimalTwins (P : Word → Prop) (s t : State) : Prop :=
  ∃ (d : Bool) (m : Memory) (l : List BusEvent), t = { s with p := { s.p with d := d }, mem := m, busLog := l } ∧
    l.length = s.busLog.length ∧ SameButBit3 P s.mem m

theorem DecimalTwins.mono {P Q : Word → Prop} {s t : State} (h : DecimalTwins P s t) (hPQ : ∀ b, P b → Q b) :
    DecimalTwins Q s t := by
  obtain ⟨d, m, l, rfl, hl, hm⟩ := h
  exact ⟨d, m, l, rfl, hl, hm.mono hPQ⟩

theorem decimalTwins_setP (P : Word → Prop) (d : Bool) (s : State) : DecimalTwins P s (s.setP { s.p with d := d }) :=
  ⟨d, s.mem, s.busLog, rfl, rfl, fun _ => .inl rfl⟩

theorem decimalTwins_refl (P : Word → Prop) (s : State) : DecimalTwins P s s := decimalTwins_setP P s.p.d s

/-- The push of the status byte (R36, R69). -/
theorem DecimalTwins.push_status {P : Word → Prop} {s t : State} (h : DecimalTwins P s t) (brk : Bool) :
    DecimalTwins (fun b => P b ∨ b = stackBelow 0 s) (push (packP brk s.p) s) (push (packP brk t.p) t) := by
  obtain ⟨d, m, l, rfl, hl, hm⟩ := h
  have haddr : stackBelow 0 s = stackAddr s.sp := by rw [stackBelow_eq_stackAddr 0 (by omega), BitVec.sub_zero]
  have hmem := hm.store_bit3 (ignoredAt s.bus 0) (stackAddr s.sp) (packP_bit3 brk d s.p)
  rw [push_eq, push_eq, haddr]
  refine ⟨d, storeByte (ignoredAt s.bus 0) m (stackAddr s.sp) (packP brk { s.p with d := d }),
    l ++ [BusEvent.write (stackAddr s.sp) (packP brk { s.p with d := d })], ?_, ?_, ?_⟩
  · rfl
  · simp [hl]
  · exact hmem

/-- An interrupt sequence: the pushed status byte may differ, and the vector lies outside the stack page (R270, R327). -/
theorem DecimalTwins.after_takeInterrupt {P : Word → Prop} {s t : State} (h : DecimalTwins P s t) (hP : ∀ b, P b → page b = 1)
    {v : Word} (hv : v = nmiVector ∨ v = irqVector) (brk : Bool) :
    DecimalTwins (fun b => P b ∨ b = stackBelow 2 s) (takeInterrupt v brk s) (takeInterrupt v brk t) := by
  obtain ⟨d, m, l, rfl, hl, hm⟩ := h
  have hlo : m.read v = s.mem.read v := hm.read_eq hP (by rcases hv with rfl | rfl <;> decide)
  have hhi : m.read (v + 1#16) = s.mem.read (v + 1#16) := hm.read_eq hP (by rcases hv with rfl | rfl <;> decide)
  have htarget : wordAt 0 v { s with p := { s.p with d := d }, mem := m, busLog := l } = wordAt 0 v s := by
    simp only [wordAt, answer_eq, hlo, hhi]
  rw [takeInterrupt_entered v hv, takeInterrupt_entered v hv]
  refine ⟨d, interruptFrame brk { s with p := { s.p with d := d }, mem := m, busLog := l },
    l ++ frameEvents v brk { s with p := { s.p with d := d }, mem := m, busLog := l }, ?_, ?_, ?_⟩
  · rw [entered, htarget]
    rfl
  · simp [entered, frameEvents, hl]
  · simp only [entered, interruptFrame_stack]
    exact ((hm.store _ _ _).store _ _ _).store_bit3 _ _ (packP_bit3 brk d s.p)

/-! ### The handlers -/

/-- Where the handler of `m` pushes a status byte from the state `s` (R253, R270). -/
def StatusPushedAt (m : Mnemonic) (s : State) (b : Word) : Prop :=
  m = .php ∧ b = stackBelow 0 s ∨ m = .brk ∧ b = stackBelow 2 s

theorem page_stackBelow {k : Nat} (hk : k ≤ 256) (s : State) : page (stackBelow k s) = 1 := by
  rw [stackBelow_eq_stackAddr k hk]
  exact Decidable.byContradiction fun h => ne_stackAddr h _ rfl

theorem page_of_statusPushedAt {m : Mnemonic} {s : State} {b : Word} (h : StatusPushedAt m s b) : page b = 1 := by
  rcases h with ⟨-, rfl⟩ | ⟨-, rfl⟩ <;> exact page_stackBelow (by omega) s

theorem brk_twins (d : Bool) (s : State) :
    DecimalTwins (fun b => b = stackBelow 2 s) (brk s) (brk (s.setP { s.p with d := d })) := by
  have hstart : DecimalTwins (fun _ => False) (brkStart s) (brkStart (s.setP { s.p with d := d })) :=
    decimalTwins_setP _ d (brkStart s)
  have hframe := hstart.after_takeInterrupt (by simp) (.inr rfl : irqVector = nmiVector ∨ _) true
  obtain ⟨e, m, l, ht, hl, hm⟩ := hframe
  rw [brk_eq, brk_eq, ht]
  exact ⟨e, m, l, rfl, hl, hm.mono (by rintro b (hb | rfl); exacts [hb.elim, rfl])⟩

/-- From two states that differ in D a handler answers two states that differ in D and in the status byte it pushes. -/
theorem handle_twins (m : Mnemonic) (op : Operand) (d : Bool) (s : State) :
    DecimalTwins (StatusPushedAt m s) (handle m op s) (handle m op (s.setP { s.p with d := d })) := by
  by_cases hm : m ∈ statusPushers
  · simp only [statusPushers, List.mem_cons, List.not_mem_nil, or_false] at hm
    rcases hm with rfl | rfl
    · exact ((decimalTwins_setP (fun _ => False) d (resolveImplicit s)).push_status false).mono
        (by rintro b (hb | rfl); exacts [hb.elim, .inl ⟨rfl, rfl⟩])
    · exact (brk_twins d s).mono (by rintro b rfl; exact .inr ⟨rfl, rfl⟩)
  · have hput : handle m op (s.setP { s.p with d := d }) = _ := handle_put_flag (f := .d) hm op d s
    rw [hput]
    split
    · exact decimalTwins_refl ..
    · exact decimalTwins_setP _ d _

/-! ### The phases after Execute -/

theorem DecimalTwins.after_account {P : Word → Prop} {s t : State} (h : DecimalTwins P s t) (op : Byte) :
    DecimalTwins P (account op s) (account op t) := by
  obtain ⟨d, m, l, rfl, hl, hm⟩ := h
  exact ⟨d, m, l, rfl, hl, hm⟩

/-- An interrupt sequence leaves S one below its status byte. -/
theorem stackAbove_takeInterrupt (v : Word) (brk : Bool) (s : State) : stackAbove 1 (takeInterrupt v brk s) = stackBelow 2 s := by
  rw [← stackAddr_add, ← stackAddr_sub 2 (by omega), takeInterrupt_eq]
  congr 1
  bv_omega

theorem DecimalTwins.after_enterInterrupt {P : Word → Prop} {s t : State} (h : DecimalTwins P s t)
    (hP : ∀ b, P b → page b = 1) {v : Word} (hv : v = nmiVector ∨ v = irqVector) :
    DecimalTwins (fun b => P b ∨ b = stackAbove 1 (enterInterrupt v s)) (enterInterrupt v s) (enterInterrupt v t) := by
  have habove : stackAbove 1 (enterInterrupt v s) = stackBelow 2 s := stackAbove_takeInterrupt v false s
  obtain ⟨d, m, l, ht, hl, hm⟩ := h.after_takeInterrupt hP hv false
  rw [habove, enterInterrupt_eq, enterInterrupt_eq, ht]
  obtain ⟨-, -, -, rfl, -, -⟩ := h
  exact ⟨d, m, l, rfl, hl, hm⟩

/-- The InterruptCheck phase: an entry adds the address of the status byte that it pushes. -/
theorem DecimalTwins.after_interruptCheck {P : Word → Prop} {s t : State} (h : DecimalTwins P s t)
    (hP : ∀ b, P b → page b = 1) :
    DecimalTwins
      (fun b => P b ∨ (s.pendingNMI = true ∨ s.pendingIRQ = true) ∧ b = stackAbove 1 (interruptCheck s))
      (interruptCheck s) (interruptCheck t) := by
  have hnmi := h.after_enterInterrupt hP (.inl rfl : nmiVector = _ ∨ nmiVector = irqVector)
  have hirq := h.after_enterInterrupt hP (.inr rfl : irqVector = nmiVector ∨ _)
  obtain ⟨d, m, l, rfl, hl, hm⟩ := h
  simp only [interruptCheck]
  split
  next hn =>
    obtain ⟨d, m, l, ht, hl, hm⟩ := hnmi
    rw [ht]
    exact ⟨d, m, l, rfl, hl, hm.mono fun b => Or.imp_right fun hb => ⟨.inl hn, hb⟩⟩
  next =>
    split
    next hq =>
      obtain ⟨d, m, l, ht, hl, hm⟩ := hirq
      rw [ht]
      exact ⟨d, m, l, rfl, hl, hm.mono fun b => Or.imp_right fun hb => ⟨.inr (Bool.and_elim_left hq), hb⟩⟩
    next => exact ⟨d, m, l, rfl, hl, hm.mono fun b => Or.inl⟩

theorem DecimalTwins.after_finishStep {P : Word → Prop} {s t : State} (h : DecimalTwins P s t)
    (hP : ∀ b, P b → page b = 1) (op : Byte) :
    DecimalTwins
      (fun b => P b ∨ (s.pendingNMI = true ∨ s.pendingIRQ = true) ∧ b = stackAbove 1 (finishStep op s))
      (finishStep op s) (finishStep op t) := by
  obtain ⟨d, m, l, ht, hl, hm⟩ := (h.after_account op).after_interruptCheck hP
  rw [finishStep, finishStep, ht]
  exact ⟨d, m, l, rfl, hl, hm⟩

/-- Fetch does not depend on the flags. -/
theorem step_setP_eq (q : Flags) (s : State) :
    step (s.setP q) =
      .next (finishStep (opcodeAt s)
        (handle (fetchInstr s).mnemonic (fetchInstr s).operand ((prepareStep s).setP q))) := by
  have hfetch : fetchInstr (s.setP q) = fetchInstr s := rfl
  have hop : opcodeAt (s.setP q) = opcodeAt s := rfl
  have hprep : prepareStep (s.setP q) = (prepareStep s).setP q := rfl
  rw [step_eq, hfetch, hop, hprep]

theorem statusPushedAt_prepareStep (m : Mnemonic) (s : State) : StatusPushedAt m (prepareStep s) = StatusPushedAt m s := by
  rw [prepareStep_eq]
  rfl

/-- Where a step may push a status byte: its instruction before the interrupt check, and an interrupt entry. -/
theorem step_twins {s t u : State} {d : Bool} (ht : step s = .next t) (hu : step (s.setP { s.p with d := d }) = .next u) :
    DecimalTwins
      (fun b => StatusPushedAt (fetchInstr s).mnemonic s b ∨ (s.pendingNMI = true ∨ s.pendingIRQ = true) ∧ b = stackAbove 1 t)
      t u := by
  rw [step_setP_eq] at hu
  obtain rfl := Host.Outcome.next.inj hu
  obtain rfl := eq_of_step ht
  have hexec := handle_twins (fetchInstr s).mnemonic (fetchInstr s).operand d (prepareStep s)
  rw [statusPushedAt_prepareStep, prepareStep_p] at hexec
  have hfinish := hexec.after_finishStep (fun _ => page_of_statusPushedAt) (opcodeAt s)
  rwa [handle_pendingNMI, handle_pendingIRQ, prepareStep_pendingNMI, prepareStep_pendingIRQ] at hfinish

/-- Settles O56: the two answered states are twins, and the addresses at which they may differ are those of the status bytes that
the step pushes. -/
theorem decimalFlagChangesNoResult : Obligations.DecimalFlagChangesNoResult := by
  intro s t u d ht hu
  obtain ⟨e, m, l, rfl, hl, hm⟩ := step_twins ht hu
  refine ⟨rfl, rfl, rfl, rfl, rfl, rfl, rfl, rfl, rfl, rfl, rfl, hl, fun b => ?_⟩
  exact (hm b).imp_right fun ⟨hbit, hb⟩ => ⟨hbit, or_assoc.mp hb⟩

end Sys2Proof.Machine

/-! PROOF. Memory as data (R60, R75), the stack (R69, R70), and which instructions write memory (R73): O7, O44, O58. -/

namespace Sys2Proof.Machine

open Sys2Proof.Rules

/-! ### The canonical form -/

theorem cellsFrom_cons {lo : Nat} {c : Host.Cell} {m : Memory} :
    cellsFrom lo (c :: m) = true ↔ lo ≤ c.1 ∧ c.1 < 65536 ∧ c.2 ≠ 0#8 ∧ cellsFrom (c.1 + 1) m = true := by
  simp only [cellsFrom, Bool.and_eq_true, decide_eq_true_eq, and_assoc]

theorem readCell_head (c : Host.Cell) (m : Memory) : readCell (c :: m) c.1 = c.2 := if_pos rfl

theorem readCell_tail {c : Host.Cell} {k : Nat} (h : c.1 ≠ k) (m : Memory) : readCell (c :: m) k = readCell m k := if_neg h

/-- Below its first key a list of cells reads 0x00. -/
theorem readCell_below {lo k : Nat} {m : Memory} (h : cellsFrom lo m = true) (hk : k < lo) : readCell m k = 0#8 := by
  induction m generalizing lo with
  | nil => rfl
  | cons c m ih =>
    obtain ⟨hlo, -, -, hm⟩ := cellsFrom_cons.mp h
    rw [readCell_tail (by omega)]
    exact ih hm (by omega)

/-- A listed key is listed by every list that reads alike: where the other begins above it, the other reads 0x00 there. -/
theorem cellsFrom_head_le {lo k : Nat} {c : Host.Cell} {m n : Memory} (hm : cellsFrom lo (c :: m) = true)
    (hn : cellsFrom k n = true) (hread : ∀ j, j < 65536 → readCell (c :: m) j = readCell n j) : k ≤ c.1 := by
  obtain ⟨-, hlt, hne, -⟩ := cellsFrom_cons.mp hm
  by_contra hk
  refine hne ?_
  rw [← readCell_head c m, hread c.1 hlt, readCell_below hn (by omega)]

/-- Lists in canonical form that read alike are equal: their first keys bound each other, and their tails read alike. -/
theorem eq_of_readCell_eq {lo : Nat} {m n : Memory} (hm : cellsFrom lo m = true) (hn : cellsFrom lo n = true)
    (hread : ∀ k, k < 65536 → readCell m k = readCell n k) : m = n := by
  induction m generalizing lo n with
  | nil =>
    cases n with
    | nil => rfl
    | cons d n =>
      have hle : 65536 ≤ d.1 := cellsFrom_head_le (n := []) hn rfl fun k hk => (hread k hk).symm
      obtain ⟨-, hlt, -, -⟩ := cellsFrom_cons.mp hn
      omega
  | cons c m ih =>
    obtain ⟨-, hclt, -, hmt⟩ := cellsFrom_cons.mp hm
    cases n with
    | nil =>
      have hle : 65536 ≤ c.1 := cellsFrom_head_le (n := []) hm rfl hread
      omega
    | cons d n =>
      obtain ⟨-, hdlt, hd, hnt⟩ := cellsFrom_cons.mp hn
      have hdc : d.1 ≤ c.1 := cellsFrom_head_le hm (cellsFrom_cons.mpr ⟨le_rfl, hdlt, hd, hnt⟩) hread
      have hcd : c.1 ≤ d.1 :=
        cellsFrom_head_le hn (cellsFrom_cons.mpr ⟨le_rfl, (cellsFrom_cons.mp hm).2⟩) fun k hk => (hread k hk).symm
      have hkey : c.1 = d.1 := by omega
      have hbyte : c.2 = d.2 := by rw [← readCell_head c m, hread c.1 hclt, hkey, readCell_head]
      have htail : m = n := by
        refine ih hmt (hkey ▸ hnt) fun k hk => ?_
        by_cases hkc : k < c.1 + 1
        · rw [readCell_below hmt hkc, readCell_below hnt (by omega)]
        · rw [← readCell_tail (c := c) (by omega) m, hread k hk, readCell_tail (by omega)]
      rw [htail, Prod.ext hkey hbyte]

/-- Settles O7: every cell key is an address, so alike reads of addresses are alike reads of keys. -/
theorem canonicalMemoriesAreEqualData : Obligations.CanonicalMemoriesAreEqualData := by
  intro m n hm hn hread
  refine eq_of_readCell_eq hm hn fun k hk => ?_
  have hkey : (BitVec.ofNat 16 k).toNat = k := Nat.mod_eq_of_lt hk
  simpa only [Memory.read, hkey] using hread (BitVec.ofNat 16 k)

/-! ### The stack -/

theorem ignoredAt_eq_false {b : Bus} {k : Nat} (h : b.ignored[k]? ≠ some true) : ignoredAt b k = false := by
  rw [ignoredAt, List.getD_eq_getElem?_getD]
  rcases hk : b.ignored[k]? with _ | _ | _
  · rfl
  · rfl
  · exact absurd hk h

/-- Settles O44: the pull reads the address that the push wrote. -/
theorem pullAfterPushRestores : Obligations.PullAfterPushRestores := by
  intro v s
  have hback : s.sp - 1#8 + 1#8 = s.sp := BitVec.sub_add_cancel ..
  have haddr : stackBelow 0 s = stackAddr s.sp := by rw [stackBelow_eq_stackAddr 0 (by omega), BitVec.sub_zero]
  refine ⟨rfl, hback, fun hign => ?_⟩
  have hstored : (push v s).mem.read (stackAddr s.sp) = v := by
    rw [push_eq, ignoredAt_eq_false hign, storeByte_same]
    rfl
  refine ⟨haddr ▸ hstored, fun hram => ?_⟩
  have hanswers : (push v s).bus.answers = [] := hram
  calc (pull (push v s)).1 = answer 0 (stackAddr (s.sp - 1#8 + 1#8)) (push v s) := pull_value _
    _ = (push v s).mem.read (stackAddr s.sp) := by rw [hback, answer_ram hanswers]
    _ = v := hstored

/-! ### Which instructions write memory -/

/-- The handlers outside the stores, the read-modify-writes and the pushes leave memory alone (R73). -/
theorem handle_mem {m : Mnemonic} (hw : m ∉ addressWriters) (hp : m ∉ pushers) (op : Operand) (s : State) :
    (handle m op s).mem = s.mem := by
  cases m
  case sta | stx | sty | inc | dec | asl | lsr | rol | ror => exact absurd (by decide) hw
  case pha | php | jsr | brk => exact absurd (by decide) hp
  case bpl | bmi | bvc | bvs | bcc | bcs | bne | beq => cases op <;> simp [handle, branchTo]
  case jmp => cases op <;> simp [handle, jumpOperand, jumpTo]
  all_goals simp [handle]

/-- A write to an operand whose place is no other address than `ea` leaves every byte but that at `ea` alone (R136). -/
theorem writeOperand_read {pl : Place} (hlit : ∀ ea v, pl ≠ .literal ea v) {b : Word} (hb : pl ≠ .memory b) (v : Byte) (s : State) :
    (writeOperand pl v s).mem.read b = s.mem.read b := by
  cases pl with
  | noAddress => rfl
  | literal ea w => exact absurd rfl (hlit ea w)
  | memory ea => exact storeByte_other _ _ _ (by rintro rfl; exact hb rfl)

theorem place_ne_literal {op : Operand} (h : operandMode op ≠ .immediate) (s : State) (ea : Word) (v : Byte) :
    place op s ≠ .literal ea v := by
  cases op
  case immediate => exact absurd rfl h
  all_goals simp [place, address]

section
variable {op : Operand} (himm : operandMode op ≠ .immediate) {s : State} {b : Word} (hb : (resolve op s).1 ≠ .memory b)
include himm hb

theorem storeOperand_read (v : Byte) : (storeOperand op v s).mem.read b = s.mem.read b := by
  rw [storeOperand, writeOperand_read (by rw [resolve_place]; exact place_ne_literal himm s) hb, resolve_mem]

theorem modifyOperand_read (f : State → Byte → Byte) (g : State → Byte → Flags) :
    (modifyOperand f g op s).mem.read b = s.mem.read b := by
  rw [modifyOperand, State.setP_mem, writeOperand_read (by rw [resolve_place]; exact place_ne_literal himm s) hb, loadOperand_mem]

/-- A store or a read-modify-write changes the byte at the address that the resolver answers alone. -/
theorem handle_read_of_addressWriter {m : Mnemonic} (hm : m ∈ addressWriters) :
    (handle m op s).mem.read b = s.mem.read b := by
  simp only [addressWriters, List.mem_cons, List.not_mem_nil, or_false] at hm
  rcases hm with rfl | rfl | rfl | rfl | rfl | rfl | rfl | rfl | rfl
  · exact storeOperand_read himm hb _
  · exact storeOperand_read himm hb _
  · exact storeOperand_read himm hb _
  all_goals exact modifyOperand_read himm hb _ _

end

/-- A push leaves the bytes outside the stack page alone (R24, R69). -/
theorem push_read {b : Word} (hb : page b ≠ 1) (v : Byte) (s : State) : (push v s).mem.read b = s.mem.read b :=
  storeByte_other _ _ _ (ne_stackAddr hb _)

/-- A pushing instruction changes bytes of the stack page alone. -/
theorem handle_read_of_pusher {m : Mnemonic} (hm : m ∈ pushers) {b : Word} (hb : page b ≠ 1) (op : Operand) (s : State) :
    (handle m op s).mem.read b = s.mem.read b := by
  simp only [pushers, List.mem_cons, List.not_mem_nil, or_false] at hm
  rcases hm with rfl | rfl | rfl | rfl
  · exact push_read hb _ _
  · exact push_read hb _ _
  · cases op
    case absolute addr =>
      simp only [handle, jsrOperand, jsr, State.setPC_mem, pushWord, push_read hb, resolveAbsolute_mem]
    all_goals rfl
  · simp only [handle, brk_eq, State.setP_mem, takeInterrupt_eq, interruptFrame_read hb]
    rfl

/-- Settles O58: no store has an Immediate operand, so the one byte written through an operand is that at the resolver's address. -/
theorem onlyStoresAndPushesWriteMemory : Obligations.OnlyStoresAndPushesWriteMemory := by
  intro i s t h
  obtain rfl := eq_of_exec h
  refine ⟨fun hw hp => handle_mem hw hp _ s, fun hw b hb => ?_, fun hp b hb => handle_read_of_pusher hp hb _ s⟩
  obtain ⟨-, himm, -⟩ := addressWriters_mode i hw
  exact handle_read_of_addressWriter himm hb hw

end Sys2Proof.Machine

/-! PROOF. A step's log is its exchange with the bus (R61, R62, R73, R75): O59, and from it what the written bytes leave in memory
(R77): O17. Every operation exchanges its events with the bus, the reads of the operand bytes because the decoder took the
instruction from the same answers. -/

namespace Sys2Proof

/-- The bytes of the operand are those that the instruction was decoded from (R91, R92). -/
theorem operandBytes_decodeBytes (b0 b1 b2 : Byte) : operandBytes (decodeBytes b0 b1 b2).operand <+: [b1, b2] := by
  unfold decodeBytes
  split
  all_goals
    simp only [decodeRow0, decodeRow1, decodeRow2, decodeRow3, decodeRow4, decodeRow5, decodeRow6, decodeRow7, decodeRow8,
      decodeRow9, decodeRowA, decodeRowB, decodeRowC, decodeRowD, decodeRowE, decodeRowF]
    split
    all_goals simp [Instr.operand, operandBytes]

end Sys2Proof

namespace Sys2Proof.Machine

open Sys2Proof.Rules

/-! ### Operands -/

/-- The bytes of the operand are what the bus answers the next reads, of the addresses after the opcode byte (R91). -/
def OperandAnswered (op : Operand) (s : State) : Prop :=
  operandBytes op <+: [answer 0 (s.pc + 1#16) s, answer 1 (s.pc + 2#16) s]

theorem operandAnswered_fetchInstr (s : State) : OperandAnswered (fetchInstr s).operand (prepareStep s) := by
  have hbytes := operandBytes_decodeBytes (answer 0 s.pc s) (answer 1 (s.pc + 1#16) s) (answer 2 (s.pc + 2#16) s)
  rw [← fetchInstr_eq] at hbytes
  simpa [OperandAnswered, prepareStep_eq, answer_eq] using hbytes

theorem exchanges_readOperandByte {b : Byte} {l : List Byte} {s : State} (h : [b] <+: answer 0 (s.pc + 1#16) s :: l) :
    Exchanges s (readOperandByte b s) :=
  exchanges_completeRead (List.cons_prefix_cons.mp h).1

theorem exchanges_readOperandWord {w : Word} {s : State}
    (h : [lowByte w, highByte w] <+: [answer 0 (s.pc + 1#16) s, answer 1 (s.pc + 2#16) s]) :
    Exchanges s (readOperandWord w s) := by
  obtain ⟨hlo, hhi⟩ := List.cons_prefix_cons.mp h
  have hhi' : highByte w = answer 0 (s.pc + 2#16) (completeRead (s.pc + 1#16) (lowByte w) s) := by
    rw [(List.cons_prefix_cons.mp hhi).1]
    simp [completeRead_eq, answer_eq]
  exact exchanges_trans (exchanges_completeRead hlo) (exchanges_completeRead hhi')

/-! An update of a field outside the bus, the memory and the log, after an exchange. -/

section
variable {s t : State} (h : Exchanges s t)
include h

theorem Exchanges.setA (v : Byte) : Exchanges s (t.setA v) := h
theorem Exchanges.setX (v : Byte) : Exchanges s (t.setX v) := h
theorem Exchanges.setY (v : Byte) : Exchanges s (t.setY v) := h
theorem Exchanges.setPC (v : Word) : Exchanges s (t.setPC v) := h
theorem Exchanges.setP (q : Flags) : Exchanges s (t.setP q) := h
theorem Exchanges.setBranch (b : Bool) : Exchanges s (t.setBranch b) := h
theorem Exchanges.setOops (b : Bool) : Exchanges s (t.setOops b) := h
theorem Exchanges.setNMI (b : Bool) : Exchanges s (t.setNMI b) := h
theorem Exchanges.setIRQ (b : Bool) : Exchanges s (t.setIRQ b) := h
theorem Exchanges.setStepCycles (n : Nat) : Exchanges s (t.setStepCycles n) := h
theorem Exchanges.setCycleCount (n : Nat) : Exchanges s (t.setCycleCount n) := h

end

theorem exchanges_refl (s : State) : Exchanges s s := exchanges_of_eq rfl rfl rfl

theorem exchanges_resolve {op : Operand} {s : State} (h : OperandAnswered op s) : Exchanges s (resolve op s).2 := by
  cases op with
  | implicit | accumulator | immediate => exact (exchanges_refl s).setPC _
  | zeroPage zp | zeroPageX zp | zeroPageY zp => exact (exchanges_readOperandByte h).setPC _
  | relative rel => exact ((exchanges_readOperandByte h).setPC _).setOops _
  | absolute addr => exact (exchanges_readOperandWord h).setPC _
  | absoluteX base | absoluteY base => exact ((exchanges_readOperandWord h).setPC _).setOops _
  | indirect ptr => exact exchanges_trans ((exchanges_readOperandWord h).setPC _) (exchanges_readPair ..)
  | indexedIndirectX zp => exact exchanges_trans ((exchanges_readOperandByte h).setPC _) (exchanges_readPair ..)
  | indirectIndexedY zp =>
    exact (exchanges_trans ((exchanges_readOperandByte h).setPC _) (exchanges_readPair ..)).setOops _

/-- The one read of an operand: of the operand byte itself in Immediate mode (R124, R135). -/
theorem exchanges_loadOperand {op : Operand} {s : State} (h : OperandAnswered op s) : Exchanges s (loadOperand op s).2 := by
  refine exchanges_trans (exchanges_resolve h) ?_
  cases op with
  | implicit | accumulator => exact exchanges_refl _
  | immediate imm => exact exchanges_completeRead (List.cons_prefix_cons.mp h).1
  | _ => exact exchanges_memRead ..

theorem exchanges_writeOperand (pl : Place) (v : Byte) (s : State) : Exchanges s (writeOperand pl v s) := by
  cases pl with
  | noAddress => exact (exchanges_refl s).setA v
  | literal | memory => exact exchanges_memWrite ..

theorem exchanges_storeOperand {op : Operand} {s : State} (h : OperandAnswered op s) (v : Byte) :
    Exchanges s (storeOperand op v s) :=
  exchanges_trans (exchanges_resolve h) (exchanges_writeOperand ..)

theorem exchanges_modifyOperand {op : Operand} {s : State} (h : OperandAnswered op s) (f : State → Byte → Byte)
    (g : State → Byte → Flags) : Exchanges s (modifyOperand f g op s) :=
  (exchanges_trans (exchanges_loadOperand h) (exchanges_writeOperand ..)).setP _

/-! ### A step -/

theorem exchanges_branchTo {op : Operand} {s : State} (h : OperandAnswered op s) (cond : Bool) :
    Exchanges s (branchTo cond op s) := by
  cases op
  case relative rel =>
    cases cond
    · exact exchanges_resolve h
    · exact ((exchanges_resolve h).setPC _).setBranch true
  all_goals exact exchanges_refl s

theorem exchanges_jumpOperand {op : Operand} {s : State} (h : OperandAnswered op s) : Exchanges s (jumpOperand op s) := by
  cases op
  case absolute | indirect => exact (exchanges_resolve h).setPC _
  all_goals exact exchanges_refl s

theorem exchanges_jsrOperand {op : Operand} {s : State} (h : OperandAnswered op s) : Exchanges s (jsrOperand op s) := by
  cases op
  case absolute addr => exact (exchanges_trans (exchanges_resolve h) (exchanges_pushWord ..)).setPC _
  all_goals exact exchanges_refl s

/-- Every handler's events are its exchange with the bus. -/
theorem exchanges_handle {op : Operand} {s : State} (h : OperandAnswered op s) (m : Mnemonic) : Exchanges s (handle m op s) := by
  have hload := exchanges_loadOperand h
  have hnext : Exchanges s (resolveImplicit s) := (exchanges_refl s).setPC _
  cases m
  case and | ora | eor | adc | sbc | lda => exact (hload.setA _).setP _
  case ldx => exact (hload.setX _).setP _
  case ldy => exact (hload.setY _).setP _
  case cmp | cpx | cpy | bit => exact hload.setP _
  case sta | stx | sty => exact exchanges_storeOperand h _
  case asl | lsr | rol | ror | inc | dec => exact exchanges_modifyOperand h _ _
  case bpl | bmi | bvc | bvs | bcc | bcs | bne | beq => exact exchanges_branchTo h _
  case jmp => exact exchanges_jumpOperand h
  case jsr => exact exchanges_jsrOperand h
  case rts => exact (exchanges_trans hnext (exchanges_trans (exchanges_pull _) (exchanges_pull _))).setPC _
  case rti => exact exchanges_trans hnext (exchanges_returnFromInterrupt _)
  case pha | php => exact exchanges_trans hnext (exchanges_push ..)
  case pla => exact ((exchanges_trans hnext (exchanges_pull _)).setA _).setP _
  case plp => exact (exchanges_trans hnext (exchanges_pull _)).setP _
  case brk => exact (exchanges_trans ((hnext.setPC _).setP _) (exchanges_takeInterrupt ..)).setP _
  case clc | cld | cli | clv | sec | sed | sei | nop | inx | iny | dex | dey | tax | tay | txa | tya | tsx | txs =>
    exact exchanges_of_eq (by simp [handle]) (by simp [handle]) (by simp [handle])
  all_goals exact exchanges_resolve h

theorem exchanges_interruptCheck (s : State) : Exchanges s (interruptCheck s) := by
  have henter (v : Word) : Exchanges s (enterInterrupt v s) := (exchanges_takeInterrupt v false s).setStepCycles _
  unfold interruptCheck
  split
  · exact (henter nmiVector).setNMI false
  · split
    · exact (henter irqVector).setIRQ false
    · exact exchanges_refl s

theorem exchanges_finishStep (op : Byte) (s : State) : Exchanges s (finishStep op s) := by
  have haccount : Exchanges s (account op s) := (((exchanges_refl s).setStepCycles _).setOops false).setBranch false
  exact (exchanges_trans haccount (exchanges_interruptCheck _)).setCycleCount _

/-- A step's events, after the start that empties the log, are its exchange with the bus. -/
theorem exchanges_step {s t : State} (h : step s = .next t) : Exchanges (beginStep s) t := by
  obtain rfl := eq_of_step h
  have hfetch : Exchanges (beginStep s) (prepareStep s) := exchanges_memRead ..
  have hexec := exchanges_handle (operandAnswered_fetchInstr s) (fetchInstr s).mnemonic
  exact exchanges_trans hfetch (exchanges_trans hexec (exchanges_finishStep ..))

/-- An exchange that began with an empty log has the events of its log. -/
theorem Exchanges.exchange_busLog {s t : State} (h : Exchanges s t) (hs : s.busLog = []) :
    exchange s.bus s.mem t.busLog = some (t.bus, t.mem) := by
  obtain ⟨l, hl, he⟩ := h
  rwa [hl, hs]

theorem exchange_step {s t : State} (h : step s = .next t) : exchange s.bus s.mem t.busLog = some (t.bus, t.mem) :=
  (exchanges_step h).exchange_busLog rfl

/-- Settles O59: a step and a reset are sequences of bus operations and of updates that make no event. -/
theorem everyAccessIsTheBus : Obligations.EveryAccessIsTheBus := by
  refine ⟨fun s t => exchange_step, fun s => ?_⟩
  have hvector : Exchanges (powerOnPosture s) (resetOp s) := (exchanges_readPair ..).setPC _
  exact hvector.exchange_busLog rfl

/-! ### What the written bytes leave in memory -/

theorem exchange_read (b : Bus) (m : Memory) (a : Word) (v : Byte) (l : List BusEvent) :
    exchange b m (.read a v :: l) = if v = answerAt b 0 (m.read a) then exchange (spent 1 0 b) m l else none := by
  rcases b with ⟨_ | ⟨_ | u, answers⟩, g⟩ <;> rfl

theorem exchange_write (b : Bus) (m : Memory) (a : Word) (v : Byte) (l : List BusEvent) :
    exchange b m (.write a v :: l) = exchange (spent 0 1 b) (storeByte (ignoredAt b 0) m a v) l := by
  rcases b with ⟨answers, _ | ⟨_ | _, g⟩⟩ <;> rfl

/-- The byte that the next write leaves at `c`: its own where it writes there and is not ignored. -/
theorem storeByte_read (b : Bus) (m : Memory) (a c : Word) (v : Byte) :
    (storeByte (ignoredAt b 0) m a v).read c = if a = c ∧ b.ignored.head? ≠ some true then v else m.read c := by
  by_cases hac : a = c
  · subst hac
    rw [storeByte_same]
    rcases b with ⟨answers, _ | ⟨_ | _, g⟩⟩ <;> simp [ignoredAt]
  · rw [storeByte_other _ _ _ (Ne.symm hac), if_neg fun h => hac h.1]

/-- The last byte that a write and then a log leave at `c`. -/
theorem written_write (g : List Bool) (a c : Word) (v : Byte) (l : List BusEvent) :
    written g (.write a v :: l) c = (written (g.drop 1) l c).or (if a = c ∧ g.head? ≠ some true then some v else none) := by
  rw [written]
  rcases written (g.drop 1) l c with _ | u <;> rfl

/-- After the events of a log the byte at `c` is the last that a write left there, and the one from before where none did. -/
theorem read_of_exchange {b : Bus} {m : Memory} {l : List BusEvent} {r : Bus × Memory} (h : exchange b m l = some r) (c : Word) :
    r.2.read c = (written b.ignored l c).getD (m.read c) := by
  induction l generalizing b m with
  | nil =>
    obtain rfl := Option.some.inj h
    rfl
  | cons e l ih =>
    cases e with
    | read a v =>
      rw [exchange_read, Option.ite_none_right_eq_some] at h
      exact ih (b := spent 1 0 b) h.2
    | write a v =>
      rw [exchange_write] at h
      have hrest : r.2.read c = (written (b.ignored.drop 1) l c).getD ((storeByte (ignoredAt b 0) m a v).read c) := ih h
      rw [hrest, written_write, storeByte_read]
      rcases written (b.ignored.drop 1) l c with _ | u
      · rw [Option.none_or]
        split <;> rfl
      · rfl

theorem opcode_fetchInstr (s : State) : (fetchInstr s).opcode = answer 0 s.pc s := by
  rw [fetchInstr_eq, opcode_decodeBytes]

theorem interruptCheck_nmi {s : State} (h : s.pendingNMI = true) :
    interruptCheck s = (enterInterrupt nmiVector s).setNMI false := if_pos h

theorem interruptCheck_irq {s : State} (hnmi : s.pendingNMI = false) (h : (s.pendingIRQ && !s.p.i) = true) :
    interruptCheck s = (enterInterrupt irqVector s).setIRQ false := by
  rw [interruptCheck, if_neg (by simp [hnmi]), if_pos h]

theorem interruptCheck_none {s : State} (hnmi : s.pendingNMI = false) (h : (s.pendingIRQ && !s.p.i) = false) :
    interruptCheck s = s := by
  rw [interruptCheck, if_neg (by simp [hnmi]), if_neg (by simp [h])]

/-- Without a pending interrupt the phases after Execute count cycles alone. -/
theorem finishStep_quiet (op : Byte) {s : State} (hnmi : s.pendingNMI = false) (hirq : s.pendingIRQ = false) :
    finishStep op s = countCycles (account op s) := by
  rw [finishStep, interruptCheck_none]
  · exact hnmi
  · rw [account_eq, hirq, Bool.false_and]

/-- A step of STA Absolute without an interrupt: the next instruction, and one write after the reads of its three bytes. -/
theorem step_staAbs {s : State} {addr : Word} (hf : fetchInstr s = .staAbs addr) (hnmi : s.pendingNMI = false)
    (hirq : s.pendingIRQ = false) :
    ∃ t : State, step s = .next t ∧ t.pc = s.pc + 3#16 ∧
      t.busLog = .read s.pc (opcodeAt s) :: wordReads s.pc addr ++ [.write addr s.a] := by
  refine ⟨_, step_eq s, ?_⟩
  rw [finishStep_quiet _ (by simp [prepareStep_pendingNMI, hnmi]) (by simp [prepareStep_pendingIRQ, hirq]), hf]
  simp only [Instr.mnemonic, Instr.operand, handle, sta, storeOperand_eq, address, countCycles_eq, account_eq, resolved, size,
    resolverReads, prepareStep_eq, List.singleton_append, and_self]

/-- Settles O17: what an exchange leaves in memory, for the exchange that a step's log is. -/
theorem storedBytesAreFetched : Obligations.StoredBytesAreFetched := by
  refine ⟨fun s t a h => ?_, fun s addr hf hnmi hirq => ?_⟩
  · have hread : t.mem.read a = (written s.bus.ignored t.busLog a).getD (s.mem.read a) := read_of_exchange (exchange_step h) a
    refine ⟨fun hnone => by rw [hread, hnone]; rfl, fun v hv => ?_⟩
    have hmem : t.mem.read a = v := by rw [hread, hv]; rfl
    refine ⟨hmem, fun u hum hpc hram => ?_⟩
    rw [opcode_fetchInstr, answer_ram hram, hum, hpc, hmem]
  · obtain ⟨t, ht, hpc, hlog⟩ := step_staAbs hf hnmi hirq
    refine ⟨t, ht, hpc, ?_⟩
    have hwrites : written s.bus.ignored t.busLog addr = written s.bus.ignored [.write addr s.a] addr := by
      rw [hlog]
      rfl
    rw [hwrites, written_write, List.head?_eq_getElem?]
    simp [written]

end Sys2Proof.Machine

/-! PROOF. Where the bus answers every read the core knows nothing of the memory behind it (R61, R62): O60. Two states that differ in
memory alone (`MemTwins`) stay so through every operation that makes no more reads than the bus has answers for. -/

namespace Sys2Proof.Machine

open Sys2Proof.Rules

/-! ### Answers of the bus's own -/

/-- The bus gives its own answer to each of the next `k` reads. -/
def Answers (k : Nat) (b : Bus) : Prop := ∀ j, j < k → ∃ v : Byte, b.answers[j]? = some (some v)

theorem Answers.mono {j k : Nat} {b : Bus} (h : Answers k b) (hjk : j ≤ k) : Answers j b :=
  fun i hi => h i (by omega)

theorem Answers.spent {r k : Nat} {b : Bus} (h : Answers (r + k) b) (w : Nat) : Answers k (spent r w b) := by
  intro j hj
  obtain ⟨v, hv⟩ := h (r + j) (by omega)
  exact ⟨v, by rw [← hv]; exact List.getElem?_drop⟩

/-- An answer of the bus's own does not depend on the RAM. -/
theorem Answers.answerAt_eq {k j : Nat} {b : Bus} (h : Answers k b) (hj : j < k) (v w : Byte) : answerAt b j v = answerAt b j w := by
  obtain ⟨u, hu⟩ := h j hj
  simp [answerAt, List.getD_eq_getElem?_getD, hu]

/-- The states `s` and `t` differ in memory alone, and the bus gives its own answer to each of the next `k` reads. -/
def MemTwins (k : Nat) (s t : State) : Prop := Answers k s.bus ∧ ∃ m : Memory, t = s.setMem m

theorem MemTwins.mono {j k : Nat} {s t : State} (h : MemTwins k s t) (hjk : j ≤ k) : MemTwins j s t :=
  ⟨h.1.mono hjk, h.2⟩

theorem MemTwins.answer_eq {k j : Nat} {s t : State} (h : MemTwins k s t) (hj : j < k) (a : Word) : answer j a t = answer j a s := by
  obtain ⟨hans, m, rfl⟩ := h
  rw [Machine.answer_eq, Machine.answer_eq]
  exact hans.answerAt_eq hj ..

/-! ### Bus operations -/

theorem MemTwins.completeRead {k : Nat} {s t : State} (h : MemTwins (1 + k) s t) (a : Word) (v : Byte) :
    MemTwins k (completeRead a v s) (completeRead a v t) := by
  obtain ⟨hans, m, rfl⟩ := h
  exact ⟨hans.spent 0, m, rfl⟩

/-- A read answers the same byte in both. -/
theorem MemTwins.memRead {k : Nat} {s t : State} (h : MemTwins (1 + k) s t) (a : Word) :
    (memRead a t).1 = (memRead a s).1 ∧ MemTwins k (memRead a s).2 (memRead a t).2 := by
  have hval : t.peek 0 a = s.peek 0 a := by
    rw [peek_eq, peek_eq]
    exact h.answer_eq (by omega) a
  refine ⟨hval, ?_⟩
  simp only [Machine.memRead, hval]
  exact h.completeRead a _

theorem MemTwins.memWrite {k : Nat} {s t : State} (h : MemTwins k s t) (a : Word) (v : Byte) :
    MemTwins k (memWrite a v s) (memWrite a v t) := by
  obtain ⟨hans, m, rfl⟩ := h
  exact ⟨Answers.spent (r := 0) (by rwa [Nat.zero_add]) 1, storeByte (ignoredAt s.bus 0) m a v, rfl⟩

theorem MemTwins.push {k : Nat} {s t : State} (h : MemTwins k s t) (v : Byte) : MemTwins k (push v s) (push v t) := by
  obtain ⟨hans, m, rfl⟩ := h
  exact ⟨Answers.spent (r := 0) (by rwa [Nat.zero_add]) 1, storeByte (ignoredAt s.bus 0) m (stackAddr s.sp) v, rfl⟩

theorem MemTwins.pushWord {k : Nat} {s t : State} (h : MemTwins k s t) (w : Word) : MemTwins k (pushWord w s) (pushWord w t) :=
  (h.push _).push _

theorem MemTwins.pull {k : Nat} {s t : State} (h : MemTwins (1 + k) s t) :
    (pull t).1 = (pull s).1 ∧ MemTwins k (pull s).2 (pull t).2 := by
  have hset : MemTwins (1 + k) (s.setS (s.sp + 1#8)) (t.setS (t.sp + 1#8)) := by
    obtain ⟨hans, m, rfl⟩ := h
    exact ⟨hans, m, rfl⟩
  have hsp : t.sp = s.sp := by
    obtain ⟨-, m, rfl⟩ := h
    rfl
  simp only [Machine.pull, hsp] at hset ⊢
  exact hset.memRead _

theorem MemTwins.takeInterrupt {k : Nat} {s t : State} (h : MemTwins (2 + k) s t) (v : Word) (brk : Bool) :
    MemTwins k (takeInterrupt v brk s) (takeInterrupt v brk t) := by
  obtain ⟨hans, m, rfl⟩ := h
  have hvector (j : Nat) (hj : j < 2) (a : Word) :
      answerAt s.bus j ((interruptFrame brk (s.setMem m)).read a) = answerAt s.bus j ((interruptFrame brk s).read a) :=
    hans.answerAt_eq (by omega) ..
  rw [takeInterrupt_eq, takeInterrupt_eq]
  refine ⟨hans.spent 3, interruptFrame brk (s.setMem m), ?_⟩
  simp only [State.setMem_bus, hvector 0 (by omega), hvector 1 (by omega)]
  rfl

theorem MemTwins.returnFromInterrupt {k : Nat} {s t : State} (h : MemTwins (3 + k) s t) :
    MemTwins k (returnFromInterrupt s) (returnFromInterrupt t) := by
  have hanswer (j : Nat) (hj : j < 3) (a : Word) : answer j a t = answer j a s := h.answer_eq (by omega) a
  rw [returnFromInterrupt_eq, returnFromInterrupt_eq]
  simp only [readEvent, hanswer 0 (by omega), hanswer 1 (by omega), hanswer 2 (by omega)]
  obtain ⟨hans, m, rfl⟩ := h
  exact ⟨hans.spent 0, m, rfl⟩

/-! ### Operands -/

theorem readCount_le (op : Operand) : readCount op ≤ 4 := by cases op <;> simp [readCount]

/-- Jumps alone have the Indirect mode, which reads four times. -/
theorem readCount_le_three (i : Instr) : readCount i.operand ≤ 3 ∨ i.mnemonic = .jmp := by
  cases i <;> simp [Instr.operand, Instr.mnemonic, readCount]

/-- The rules of a resolver depend on memory through the answers to its reads alone. -/
theorem MemTwins.resolver_eq {k : Nat} {op : Operand} {s t : State} (h : MemTwins (readCount op + k) s t) :
    place op t = place op s ∧ crosses op t = crosses op s ∧ resolverReads op t = resolverReads op s := by
  have hanswer (j : Nat) (hj : j < readCount op) (a : Word) : answer j a t = answer j a s := h.answer_eq (by omega) a
  obtain ⟨-, m, rfl⟩ := h
  cases op
  case indirect ptr =>
    simp only [place, address, indirectTarget, crosses, resolverReads, readEvent, State.setMem_pc,
      hanswer 2 (by simp [readCount]), hanswer 3 (by simp [readCount]), and_self]
  case indexedIndirectX zp | indirectIndexedY zp =>
    simp only [place, address, zeroPagePointer, crosses, resolverReads, pointerReads, readEvent, State.setMem_pc, State.setMem_x,
      State.setMem_y, hanswer 1 (by simp [readCount]), hanswer 2 (by simp [readCount]), and_self]
  all_goals exact ⟨rfl, rfl, rfl⟩

theorem MemTwins.resolve {k : Nat} {op : Operand} {s t : State} (h : MemTwins (readCount op + k) s t) :
    (resolve op t).1 = (resolve op s).1 ∧ MemTwins k (resolve op s).2 (resolve op t).2 := by
  obtain ⟨hplace, hcross, hreads⟩ := h.resolver_eq
  rw [resolve_place, resolve_place, resolve_state, resolve_state]
  refine ⟨hplace, ?_⟩
  simp only [resolved, hcross, hreads]
  obtain ⟨hans, m, rfl⟩ := h
  exact ⟨hans.spent 0, m, rfl⟩

theorem MemTwins.readOperand {k : Nat} {s t : State} (h : MemTwins (1 + k) s t) (pl : Place) :
    (readOperand pl t).1 = (readOperand pl s).1 ∧ MemTwins k (readOperand pl s).2 (readOperand pl t).2 := by
  cases pl with
  | noAddress =>
    have ht := h.mono (j := k) (by omega)
    obtain ⟨-, m, rfl⟩ := h
    exact ⟨rfl, ht⟩
  | literal ea v => exact ⟨rfl, h.completeRead ea v⟩
  | memory ea => exact h.memRead ea

theorem MemTwins.writeOperand {k : Nat} {s t : State} (h : MemTwins k s t) (pl : Place) (v : Byte) :
    MemTwins k (writeOperand pl v s) (writeOperand pl v t) := by
  cases pl with
  | noAddress =>
    obtain ⟨hans, m, rfl⟩ := h
    exact ⟨hans, m, rfl⟩
  | literal | memory => exact h.memWrite ..

section
variable {k : Nat} {op : Operand} {s t : State}

theorem MemTwins.loadOperand (h : MemTwins (readCount op + (1 + k)) s t) :
    (loadOperand op t).1 = (loadOperand op s).1 ∧ MemTwins k (loadOperand op s).2 (loadOperand op t).2 := by
  obtain ⟨hplace, hres⟩ := h.resolve
  rw [Machine.loadOperand, Machine.loadOperand, hplace]
  exact hres.readOperand _

theorem MemTwins.storeOperand (h : MemTwins (readCount op + k) s t) (v : Byte) :
    MemTwins k (storeOperand op v s) (storeOperand op v t) := by
  obtain ⟨hplace, hres⟩ := h.resolve
  rw [Machine.storeOperand, Machine.storeOperand, hplace]
  exact hres.writeOperand _ v

/-- A read-modify-write whose byte and flags do not look at memory. -/
theorem MemTwins.modifyOperand (h : MemTwins (readCount op + (1 + k)) s t) {f : State → Byte → Byte} {g : State → Byte → Flags}
    (hf : ∀ u m v, f (u.setMem m) v = f u v) (hg : ∀ u m v, g (u.setMem m) v = g u v) :
    MemTwins k (modifyOperand f g op s) (modifyOperand f g op t) := by
  have hplace := h.resolve.1
  obtain ⟨hval, hload⟩ := h.loadOperand
  have hwrite := hload.writeOperand (Machine.resolve op s).1 (f (Machine.loadOperand op s).2 (Machine.loadOperand op s).1)
  obtain ⟨-, m, hm⟩ := hload
  simp only [Machine.modifyOperand, hplace, hval, hm, hf, hg] at hwrite ⊢
  obtain ⟨hans, n, hn⟩ := hwrite
  rw [hn]
  exact ⟨hans, n, rfl⟩

end

/-! ### A step -/

theorem MemTwins.branchTo {k : Nat} {s t : State} (h : MemTwins (4 + k) s t) (cond : Bool) (op : Operand) :
    MemTwins k (branchTo cond op s) (branchTo cond op t) := by
  cases op
  case relative rel =>
    obtain ⟨hans, m, rfl⟩ := h.mono (j := 1 + k) (by omega)
    cases cond <;> exact ⟨hans.spent 0, m, rfl⟩
  all_goals exact h.mono (by omega)

theorem MemTwins.setPC {k : Nat} {s t : State} (h : MemTwins k s t) (v : Word) : MemTwins k (s.setPC v) (t.setPC v) := by
  obtain ⟨hans, m, rfl⟩ := h
  exact ⟨hans, m, rfl⟩

theorem MemTwins.jumpOperand {k : Nat} {s t : State} (h : MemTwins (4 + k) s t) (op : Operand) :
    MemTwins k (jumpOperand op s) (jumpOperand op t) := by
  cases op
  case absolute addr =>
    have hres := (MemTwins.resolve (op := .absolute addr) (h.mono (j := 2 + k) (by omega))).2
    exact hres.setPC addr
  case indirect ptr =>
    obtain ⟨hplace, hres⟩ := MemTwins.resolve (op := .indirect ptr) h
    have htarget : (resolveIndirect ptr t).1 = (resolveIndirect ptr s).1 := Place.memory.inj hplace
    simp only [Machine.jumpOperand, jumpTo, htarget]
    exact hres.setPC _
  all_goals exact h.mono (by omega)

theorem MemTwins.jsrOperand {k : Nat} {s t : State} (h : MemTwins (4 + k) s t) (op : Operand) :
    MemTwins k (jsrOperand op s) (jsrOperand op t) := by
  cases op
  case absolute addr =>
    have hres := (MemTwins.resolve (op := .absolute addr) (h.mono (j := 2 + k) (by omega))).2
    obtain ⟨hans, m, hm⟩ := hres
    have hpush := MemTwins.pushWord ⟨hans, m, rfl⟩ ((resolveAbsolute addr s).2.pc - 1#16)
    have ht : (resolveAbsolute addr t).2 = (resolveAbsolute addr s).2.setMem m := hm
    simp only [Machine.jsrOperand, jsr, ht]
    exact hpush.setPC addr
  all_goals exact h.mono (by omega)

/-- A handler reads at most four times, and what it does depends on memory through the answers alone. -/
theorem MemTwins.handle {k : Nat} {m : Mnemonic} {op : Operand} {s t : State} (h : MemTwins (4 + k) s t)
    (hop : readCount op ≤ 3 ∨ m = .jmp) : MemTwins k (handle m op s) (handle m op t) := by
  have hload : m ≠ .jmp → MemTwins (readCount op + (1 + k)) s t := fun hm => h.mono (by have := hop.resolve_right hm; omega)
  have hres : MemTwins (readCount op + k) s t := h.mono (by have := readCount_le op; omega)
  have hnext : MemTwins (4 + k) (resolveImplicit s) (resolveImplicit t) := by
    obtain ⟨hans, n, rfl⟩ := h
    exact ⟨hans, n, rfl⟩
  cases m
  case and | ora | eor | adc | sbc | lda | ldx | ldy | cmp | cpx | cpy | bit =>
    obtain ⟨hval, hans, m, hm⟩ := (hload (by decide)).loadOperand
    obtain ⟨-, n, rfl⟩ := h
    simp only [Machine.handle, andA, oraA, eorA, combineA, adc, sbc, addWithCarry, lda, ldx, ldy, cmp, cpx, cpy, compareWith,
      bitTest, hval, hm]
    exact ⟨hans, m, rfl⟩
  case sta | stx | sty =>
    have hstore := hres.storeOperand
    obtain ⟨-, n, rfl⟩ := h
    exact hstore _
  case asl | lsr | rol | ror | inc | dec => exact (hload (by decide)).modifyOperand (fun _ _ _ => rfl) (fun _ _ _ => rfl)
  case bpl | bmi | bvc | bvs | bcc | bcs | bne | beq =>
    have hbranch := h.branchTo
    obtain ⟨-, n, rfl⟩ := h
    exact hbranch _ op
  case jmp => exact h.jumpOperand op
  case jsr => exact h.jsrOperand op
  case rts =>
    obtain ⟨hlo, h1⟩ := (hnext.mono (j := 1 + (1 + k)) (by omega)).pull
    obtain ⟨hhi, h2⟩ := h1.pull
    simp only [Machine.handle, rts, pullWord, hlo, hhi]
    exact h2.setPC _
  case rti => exact (hnext.mono (j := 3 + k) (by omega)).returnFromInterrupt
  case pha | php =>
    have hpush := (hnext.mono (j := k) (by omega)).push
    obtain ⟨-, n, rfl⟩ := h
    exact hpush _
  case pla | plp =>
    obtain ⟨hval, hans, m, hm⟩ := (hnext.mono (j := 1 + k) (by omega)).pull
    simp only [Machine.handle, pla, plp, hval, hm]
    exact ⟨hans, m, rfl⟩
  case brk =>
    have hstart : MemTwins (2 + k) (brkStart s) (brkStart t) := by
      obtain ⟨hans, n, rfl⟩ := h.mono (j := 2 + k) (by omega)
      exact ⟨hans, n, rfl⟩
    obtain ⟨hans, n, hn⟩ := hstart.takeInterrupt irqVector true
    simp only [Machine.handle, brk_eq, hn]
    exact ⟨hans, n, rfl⟩
  case clc | cld | cli | clv | sec | sed | sei | nop | inx | iny | dex | dey | tax | tay | txa | tya | tsx | txs =>
    obtain ⟨hans, n, rfl⟩ := h.mono (j := k) (by omega)
    exact ⟨hans, n, rfl⟩
  all_goals exact hres.resolve.2

theorem MemTwins.enterInterrupt {k : Nat} {s t : State} (h : MemTwins (2 + k) s t) (v : Word) :
    MemTwins k (enterInterrupt v s) (enterInterrupt v t) := by
  obtain ⟨hans, m, hm⟩ := h.takeInterrupt v false
  simp only [Machine.enterInterrupt, hm]
  exact ⟨hans, m, rfl⟩

/-- The InterruptCheck phase reads a vector at most. -/
theorem MemTwins.interruptCheck {s t : State} (h : MemTwins 2 s t) : MemTwins 0 (interruptCheck s) (interruptCheck t) := by
  have henter := MemTwins.enterInterrupt (k := 0) h
  have hskip : MemTwins 0 s t := h.mono (by omega)
  obtain ⟨-, m, rfl⟩ := h
  cases hnmi : s.pendingNMI with
  | true =>
    obtain ⟨hans, n, hn⟩ := henter nmiVector
    rw [interruptCheck_nmi hnmi, interruptCheck_nmi (s := s.setMem m) hnmi, hn]
    exact ⟨hans, n, rfl⟩
  | false =>
    cases hirq : s.pendingIRQ && !s.p.i with
    | true =>
      obtain ⟨hans, n, hn⟩ := henter irqVector
      rw [interruptCheck_irq hnmi hirq, interruptCheck_irq (s := s.setMem m) hnmi hirq, hn]
      exact ⟨hans, n, rfl⟩
    | false => rwa [interruptCheck_none hnmi hirq, interruptCheck_none (s := s.setMem m) hnmi hirq]

theorem MemTwins.finishStep {s t : State} (h : MemTwins 2 s t) (op : Byte) : MemTwins 0 (finishStep op s) (finishStep op t) := by
  have haccount : MemTwins 2 (account op s) (account op t) := by
    obtain ⟨hans, m, rfl⟩ := h
    exact ⟨hans, m, rfl⟩
  obtain ⟨hans, m, hm⟩ := haccount.interruptCheck
  rw [Machine.finishStep, Machine.finishStep, hm]
  exact ⟨hans, m, rfl⟩

/-- Fetch takes the instruction and the opcode byte from answers. -/
theorem MemTwins.fetch_eq {s t : State} (h : MemTwins 3 s t) : fetchInstr t = fetchInstr s ∧ opcodeAt t = opcodeAt s := by
  have hanswer (j : Nat) (hj : j < 3) (a : Word) : answer j a t = answer j a s := h.answer_eq hj a
  have hpc : t.pc = s.pc := by
    obtain ⟨-, m, rfl⟩ := h
    rfl
  rw [fetchInstr_eq, fetchInstr_eq, opcodeAt_eq, opcodeAt_eq, hpc, hanswer 0 (by omega), hanswer 1 (by omega),
    hanswer 2 (by omega)]
  exact ⟨rfl, rfl⟩

theorem MemTwins.prepareStep {k : Nat} {s t : State} (h : MemTwins (1 + k) s t) : MemTwins k (prepareStep s) (prepareStep t) := by
  have hbegin : MemTwins (1 + k) (beginStep s) (beginStep t) := by
    obtain ⟨hans, m, rfl⟩ := h
    exact ⟨hans, m, rfl⟩
  have hpc : (beginStep t).pc = (beginStep s).pc := by
    obtain ⟨-, m, rfl⟩ := h
    rfl
  rw [Machine.prepareStep, Machine.prepareStep, fetchOpcode, fetchOpcode, hpc]
  exact (hbegin.memRead _).2

/-- A step reads at most seven times: the opcode byte, four reads of the instruction and two of a vector. -/
theorem MemTwins.step {s t u : State} (h : MemTwins 7 s t) (hu : step s = .next u) :
    ∃ v : State, step t = .next v ∧ MemTwins 0 u v := by
  obtain ⟨hinstr, hop⟩ := (h.mono (j := 3) (by omega)).fetch_eq
  obtain rfl := eq_of_step hu
  refine ⟨_, step_eq t, ?_⟩
  rw [hinstr, hop]
  have hprep : MemTwins (4 + 2) (Machine.prepareStep s) (Machine.prepareStep t) := h.prepareStep
  exact (hprep.handle (readCount_le_three (fetchInstr s))).finishStep _

/-- Settles O60: two states that differ in the memory behind the bus stay such twins through a step. -/
theorem coreKnowsTheBusAlone : Obligations.CoreKnowsTheBusAlone := by
  intro s t m hans hstep
  have htwins : MemTwins 7 s (s.setMem m) := ⟨hans, m, rfl⟩
  obtain ⟨-, hu, -, n, rfl⟩ := htwins.step hstep
  exact ⟨n, hu⟩

end Sys2Proof.Machine

/-! PROOF. The encoding (R90 to R103): O8 to O12. The encoder's bytes are the first of those that the decoder was given, as many as
the row counts, and the decoder answers the instruction when it is given the encoder's; so the two are inverse to each other. -/

namespace Sys2Proof

/-! ### An instruction's own bytes -/

/-- An instruction is the one decoded from its own opcode byte and the bytes after it (R103): the decoder hands a byte operand
over as it stands and joins a word operand again from its two bytes (R92). -/
theorem decodeBytes_opcode_tail (i : Instr) : decodeBytes i.opcode (i.tail.getD 0 0#8) (i.tail.getD 1 0#8) = i := by
  cases i
  case illNop0C | oraAbs | aslAbs | illSlo0F | oraAby | illSlo1B | illNop1C | oraAbx | aslAbx | illSlo1F | jsr | bitAbs | andAbs |
      rolAbs | illRla2F | andAby | illRla3B | illNop3C | andAbx | rolAbx | illRla3F | jmpAbs | eorAbs | lsrAbs | illSre4F |
      eorAby | illSre5B | illNop5C | eorAbx | lsrAbx | illSre5F | jmpInd | adcAbs | rorAbs | illRra6F | adcAby | illRra7B |
      illNop7C | adcAbx | rorAbx | illRra7F | styAbs | staAbs | stxAbs | illSax8F | staAby | illTas9B | illShy9C | staAbx |
      illShx9E | illSha9F | ldyAbs | ldaAbs | ldxAbs | illLaxAF | ldaAby | illLasBB | ldyAbx | ldaAbx | ldxAby | illLaxBF |
      cpyAbs | cmpAbs | decAbs | illDcpCF | cmpAby | illDcpDB | illNopDC | cmpAbx | decAbx | illDcpDF | cpxAbs | sbcAbs | incAbs |
      illIscEF | sbcAby | illIscFB | illNopFC | sbcAbx | incAbx | illIscFF =>
    simp only [Instr.opcode, Instr.tail, Instr.operand, operandBytes]
    exact congrArg _ (wordOfBytes_highByte_lowByte _)
  all_goals
    simp only [Instr.opcode, Instr.tail, Instr.operand, operandBytes]
    rfl

theorem eq_brk_of_opcode {i : Instr} (h : i.opcode = 0x00#8) : ∃ pad : Byte, i = .brk pad :=
  ⟨_, (decodeBytes_opcode_tail i).symm.trans (by rw [h, decodeBytes_00])⟩

theorem tail_eq_operandBytes {i : Instr} (h : i.opcode ≠ 0x00#8) : i.tail = operandBytes i.operand := by
  unfold Instr.tail
  split
  · exact absurd rfl h
  · rfl

/-! ### The row of an instruction's opcode byte -/

/-- The row of an instruction's opcode byte names its mnemonic and the mode of its operand (R103). -/
theorem tableRow_opcode (i : Instr) :
    (tableRow i.opcode).mnemonic = i.mnemonic ∧ (tableRow i.opcode).mode = operandMode i.operand := by
  cases i
  all_goals
    simp only [Instr.opcode]
    exact ⟨rfl, rfl⟩

/-- The mode gives the length, but for the padding byte of BRK (R91). -/
theorem size_tableRow : ∀ b : Byte, (tableRow b).size = if b = 0x00#8 then 2 else modeSize (tableRow b).mode := by
  decide

theorem instructionSize_bounds (b : Byte) : 1 ≤ instructionSize b ∧ instructionSize b ≤ 3 := by
  have hsize := size_cases b
  rw [instructionSize]
  omega

theorem length_operandBytes (op : Operand) : (operandBytes op).length + 1 = modeSize (operandMode op) := by
  cases op <;> rfl

theorem length_encode (i : Instr) : (encode i).length = instructionSize i.opcode := by
  rw [instructionSize, size_tableRow]
  split
  case isTrue hbrk =>
    obtain ⟨pad, rfl⟩ := eq_brk_of_opcode hbrk
    rfl
  case isFalse hbrk =>
    rw [(tableRow_opcode i).2, ← length_operandBytes, encode, tail_eq_operandBytes hbrk, List.length_cons]

theorem hasLength_iff {l : List Byte} {n : Nat} : hasLength l n = true ↔ l.length = n := by
  induction l generalizing n with
  | nil => cases n <;> simp [hasLength]
  | cons b l ih => cases n <;> simp [hasLength, ih]

/-- Every instruction agrees with the row of its opcode byte, whatever its operand's value (R91, R103). -/
theorem Instr.wellFormed_eq_true (i : Instr) : i.wellFormed = true := by
  obtain ⟨hmnemonic, hmode⟩ := tableRow_opcode i
  exact wellFormed_of_row rfl rfl hmnemonic hmode (hasLength_iff.mpr (length_encode i))

/-! ### The encoder after the decoder -/

/-- The bytes after the opcode byte are those that the decoder read there, the padding byte of BRK too (R91, R92). -/
theorem tail_decodeBytes (b0 b1 b2 : Byte) : (decodeBytes b0 b1 b2).tail <+: [b1, b2] := by
  by_cases hbrk : b0 = 0x00#8
  · simp [hbrk, decodeBytes_00, Instr.tail]
  · rw [tail_eq_operandBytes (by rwa [opcode_decodeBytes])]
    exact operandBytes_decodeBytes b0 b1 b2

/-- Decoded bytes are encoded as themselves, as many as the row of the opcode byte counts. -/
theorem encode_decodeBytes (b0 b1 b2 : Byte) : encode (decodeBytes b0 b1 b2) = [b0, b1, b2].take (instructionSize b0) := by
  have hprefix : encode (decodeBytes b0 b1 b2) <+: [b0, b1, b2] :=
    List.cons_prefix_cons.mpr ⟨opcode_decodeBytes b0 b1 b2, tail_decodeBytes b0 b1 b2⟩
  rw [List.prefix_iff_eq_take.mp hprefix, length_encode, opcode_decodeBytes]

/-! ### The decoder after the encoder -/

/-- What the decoder answers on as many bytes as the opcode byte calls for and any more (R90). -/
theorem decode_of_length {b0 : Byte} {l : List Byte} (h : (b0 :: l).length = instructionSize b0) (rest : List Byte) :
    decode (b0 :: l ++ rest) = .ok (decodeBytes b0 (l.getD 0 0#8) (l.getD 1 0#8)) rest := by
  obtain hs | hs | hs := size_cases b0
  all_goals rw [instructionSize, hs, List.length_cons, Nat.add_right_cancel_iff] at h
  · obtain rfl := List.length_eq_zero_iff.mp h
    exact decode_one rfl hs rest
  · obtain ⟨b1, rfl⟩ := List.length_eq_one_iff.mp h
    exact decode_two rfl hs b1 rest
  · obtain ⟨b1, b2, rfl⟩ := List.length_eq_two.mp h
    exact decode_three rfl hs b1 b2 rest

/-- Decoding an encoding gives the instruction back and leaves what follows it. -/
theorem decode_encode (i : Instr) (rest : List Byte) : decode (encode i ++ rest) = .ok i rest := by
  rw [encode, decode_of_length (length_encode i), decodeBytes_opcode_tail]

/-- Settles O8: the decoder takes as many bytes as the row counts, and they give the instruction back. -/
theorem decodeOfEncode : Obligations.DecodeOfEncode :=
  fun i rest => ⟨i.wellFormed_eq_true, decode_encode i rest⟩

/-- A string of the length that its opcode byte calls for is encoded from what it decodes to. -/
theorem encode_of_length {b0 : Byte} {l : List Byte} (h : (b0 :: l).length = instructionSize b0) :
    encode (decodeBytes b0 (l.getD 0 0#8) (l.getD 1 0#8)) = b0 :: l := by
  have hsize : instructionSize b0 ≤ 3 := (instructionSize_bounds b0).2
  rw [encode_decodeBytes, ← h]
  rcases l with _ | ⟨b1, _ | ⟨b2, _ | ⟨b3, l⟩⟩⟩
  · rfl
  · rfl
  · rfl
  · simp only [List.length_cons] at h
    omega

/-- Settles O9: the string's length is its row's, so decoding leaves nothing and encoding gives every byte back. -/
theorem encodeOfDecode : Obligations.EncodeOfDecode := by
  rintro (_ | ⟨b0, l⟩) h
  · exact absurd h (by decide)
  · have hlen : (b0 :: l).length = instructionSize b0 := hasLength_iff.mp h
    have hdecode := decode_of_length hlen []
    rw [List.append_nil] at hdecode
    exact ⟨_, hdecode, encode_of_length hlen⟩

/-- Settles O10: the first bytes are the encoding of the instruction decoded from them, so the decoder leaves the others. -/
theorem decodingIsTotalOnOpcodeBytes : Obligations.DecodingIsTotalOnOpcodeBytes := by
  intro b0 b1 b2 rest
  have hop := opcode_decodeBytes b0 b1 b2
  have hsize := instructionSize_bounds b0
  obtain ⟨hmnemonic, -⟩ := tableRow_opcode (decodeBytes b0 b1 b2)
  have htake : (b0 :: b1 :: b2 :: rest).take (instructionSize b0) = encode (decodeBytes b0 b1 b2) := by
    rw [encode_decodeBytes]
    exact List.take_append_of_le_length (l₁ := [b0, b1, b2]) hsize.2
  refine ⟨decodeBytes b0 b1 b2, ?_, hop, ?_, hsize⟩
  · rw [← decode_encode, ← htake, List.take_append_drop]
  · rw [← hmnemonic, hop]

/-! ### The dispatch table -/

/-- A row is illegal just when its mnemonic is spelled with an asterisk (R97). -/
theorem cls_tableRow : ∀ b : Byte,
    (tableRow b).cls = if (mnemonicText (tableRow b).mnemonic).head? = some '*' then .illegal else .documented := by
  decide

/-- Settles O12: the lists by counting the rows; a mnemonic has one class because its spelling tells it. -/
theorem documentedAndIllegalRows : Obligations.DocumentedAndIllegalRows := by
  refine ⟨rfl, rfl, by decide, by decide, fun b c h => ?_⟩
  rw [cls_tableRow b, cls_tableRow c, h]

/-- Settles O11: each word's bytes, lowest first, through the table. -/
theorem sampleWordsDecode : Obligations.SampleWordsDecode :=
  ⟨rfl, rfl, rfl, rfl, rfl, rfl, rfl, rfl, rfl, rfl⟩

end Sys2Proof

/-! PROOF. What the resolvers answer and leave (R126 to R134): O18, O19. `resolve_eq` says it for every operand in the terms of the
rules; a mode is an instance of it, and one that never crosses a page leaves the page-cross flag alone. -/

namespace Sys2Proof.Machine

open Sys2Proof.Rules

theorem resolve_eq (op : Operand) (s : State) : resolve op s = (place op s, resolved op s) :=
  Prod.ext (resolve_place op s) (resolve_state op s)

/-- A resolver whose mode does not cross a page leaves the page-cross flag as it was (R121). -/
theorem resolve_of_not_crosses {op : Operand} {s : State} (h : crosses op s = false) :
    resolve op s =
      (place op s,
       { s with pc := s.pc + size op, bus := spent (readCount op) 0 s.bus, busLog := s.busLog ++ resolverReads op s }) := by
  rw [resolve_eq, resolved, h, Bool.or_false]

/-- Settles O18: the two modes that add an index to a word are their rules as they stand, and the four others never cross. -/
theorem directAddressing : Obligations.DirectAddressing := by
  intro s w z
  have habs : crosses (.absolute w) s = false := rfl
  have hzp : crosses (.zeroPage z) s = false := rfl
  have hzpx : crosses (.zeroPageX z) s = false := rfl
  have hzpy : crosses (.zeroPageY z) s = false := rfl
  exact ⟨resolve_of_not_crosses habs, resolve_of_not_crosses hzp, resolve_eq (.absoluteX w) s, resolve_eq (.absoluteY w) s,
    resolve_of_not_crosses hzpx, resolve_of_not_crosses hzpy⟩

/-- Settles O19: the pointer modes that do not index the pointed address never cross, and Indirect logs its operand's reads and
then its pointer's. -/
theorem indirectAddressing : Obligations.IndirectAddressing := by
  intro s w z
  have hind : crosses (.indirect w) s = false := rfl
  have hizx : crosses (.indexedIndirectX z) s = false := rfl
  refine ⟨?_, resolve_of_not_crosses hizx, resolve_eq (.indirectIndexedY z) s⟩
  rw [resolve_of_not_crosses hind, List.append_assoc]
  rfl

end Sys2Proof.Machine

/-! PROOF. The bitwise instructions (R151 to R153) and the shifts and rotates (R154 to R157): O22, O23, O24. Each of the four shifts
is one operation of the model on a function of the incoming carry and a byte, so one lemma (`exec_shift`) says what it does in
every mode of its rows, and the claims differ in the arithmetic of that function alone. -/

namespace Sys2Proof.Machine

open Sys2Proof.Rules

/-! ### AND, ORA and EOR -/

/-- A mnemonic whose handler combines the accumulator with the operand. -/
theorem exec_combineA {f : Byte → Byte → Byte} {m : Mnemonic} (h : ∀ op s, handle m op s = combineA f op s) (i : Instr)
    (s : State) (hi : i.mnemonic = m) :
    exec i s = .next { afterRead i.operand s with
      a := f s.a (operandByte i.operand s), p := withZN (f s.a (operandByte i.operand s)) s.p } := by
  rw [exec_eq_handle, hi, h, combineA_eq]

/-- Settles O22: each is `combineA` of its bitwise operation, and the rows are those of the table. -/
theorem andOraEorCombineAccumulator : Obligations.AndOraEorCombineAccumulator :=
  ⟨exec_combineA fun _ _ => rfl, exec_combineA fun _ _ => rfl, exec_combineA fun _ _ => rfl, rfl, rfl, rfl⟩

/-! ### A shifted byte and its bit shifted out, as arithmetic -/

theorem shiftLeft_eq (v : Byte) : shiftLeft v = ⟨doubled v, bit 7 v⟩ := by
  have hr : v <<< 1 = doubled v := by
    apply BitVec.eq_of_toNat_eq
    rw [BitVec.toNat_shiftLeft, Nat.shiftLeft_eq, doubled, BitVec.toNat_ofNat]
    omega
  rw [shiftLeft, hr, getLsbD_eq_bit]

theorem shiftRight_eq (v : Byte) : shiftRight v = ⟨halved v, bit 0 v⟩ := by
  have hr : v >>> 1 = halved v := by
    apply BitVec.eq_of_toNat_eq
    rw [BitVec.toNat_ushiftRight, Nat.shiftRight_eq_div_pow, halved, BitVec.toNat_ofNat]
    omega
  rw [shiftRight, hr, getLsbD_eq_bit]

/-- The left shift leaves bit 0 clear, so putting the carry there adds it. -/
theorem rotateLeft_eq (c : Bool) (v : Byte) : rotateLeft c v = ⟨doubledPlus c v, bit 7 v⟩ := by
  have hshift : (v <<< 1).toNat = (v.toNat % 128) <<< 1 := by
    rw [BitVec.toNat_shiftLeft, Nat.shiftLeft_eq, Nat.shiftLeft_eq]
    omega
  have hcarry : (bitAt c 0).toNat = c.toNat := by cases c <;> rfl
  have hlt : c.toNat < 2 ^ 1 := c.toNat_lt
  have hr : v <<< 1 ||| bitAt c 0 = doubledPlus c v := by
    apply BitVec.eq_of_toNat_eq
    rw [BitVec.toNat_or, hshift, hcarry, ← Nat.shiftLeft_add_eq_or_of_lt hlt, Nat.shiftLeft_eq, doubledPlus,
      BitVec.toNat_ofNat]
    omega
  rw [rotateLeft, hr, getLsbD_eq_bit]

/-- The right shift leaves bit 7 clear, so putting the carry there adds 128 times it. -/
theorem rotateRight_eq (c : Bool) (v : Byte) : rotateRight c v = ⟨halvedPlus c v, bit 0 v⟩ := by
  have hshift : (v >>> 1).toNat = v.toNat / 2 := by rw [BitVec.toNat_ushiftRight, Nat.shiftRight_eq_div_pow, pow_one]
  have hcarry : (bitAt c 7).toNat = c.toNat <<< 7 := by cases c <;> rfl
  have hlt : v.toNat / 2 < 2 ^ 7 := by omega
  have hr : v >>> 1 ||| bitAt c 7 = halvedPlus c v := by
    apply BitVec.eq_of_toNat_eq
    rw [BitVec.toNat_or, hshift, hcarry, Nat.or_comm, ← Nat.shiftLeft_add_eq_or_of_lt hlt, Nat.shiftLeft_eq, halvedPlus,
      BitVec.toNat_ofNat]
    omega
  rw [rotateRight, hr, getLsbD_eq_bit]

/-- The flags of a shift or rotate (R40, R154 to R157). -/
theorem shiftedFlags_eq (r : Byte) (c : Bool) (p : Flags) : shiftedFlags ⟨r, c⟩ p = withZN r { p with c := c } := setZN_eq ..

/-! ### The shift of an operand -/

/-- An operand that is neither Implicit nor Immediate is the accumulator or has an address (R123 to R134). -/
theorem accumulator_or_memory {op : Operand} (himp : operandMode op ≠ .implicit) (himm : operandMode op ≠ .immediate)
    (s : State) : op = .accumulator ∨ ∃ ea : Word, (resolve op s).1 = .memory ea := by
  cases op
  case implicit => exact absurd rfl himp
  case immediate => exact absurd rfl himm
  case accumulator => exact .inl rfl
  all_goals exact .inr ⟨_, resolve_place _ s⟩

/-- `exec i s` shifts or rotates the operand of `i` (R154 to R157): a byte `v` becomes `r v` with `c v` shifted out, in the
accumulator without a bus access, or in memory by one read and one write. -/
def ShiftsOperand (r : Byte → Byte) (c : Byte → Bool) (i : Instr) (s : State) : Prop :=
  match (resolve i.operand s).1 with
  | .noAddress => exec i s = .next { s with pc := s.pc + 1#16, a := r s.a, p := withZN (r s.a) { s.p with c := c s.a } }
  | .literal _ _ => False
  | .memory ea => ∃ m : Memory, StoredAt s ea (r (answer (readCount i.operand) ea s)) m ∧
      exec i s = .next { afterRead i.operand s with
        mem := m
        p := withZN (r (answer (readCount i.operand) ea s)) { s.p with c := c (answer (readCount i.operand) ea s) }
        bus := spent (readCount i.operand + 1) 1 s.bus
        busLog := (afterRead i.operand s).busLog ++ [.write ea (r (answer (readCount i.operand) ea s))] }

/-- The Accumulator form makes no bus access (R123). -/
theorem shiftOperand_accumulator (f : Bool → Byte → Shifted) (s : State) :
    shiftOperand f .accumulator s =
      { s with pc := s.pc + 1#16, a := (f s.p.c s.a).result, p := shiftedFlags (f s.p.c s.a) s.p } := rfl

/-- A mnemonic whose handler is a shift: the carry that comes in is the one before the instruction. -/
theorem exec_shift {f : Bool → Byte → Shifted} {m : Mnemonic} (hm : m ∈ addressWriters)
    (h : ∀ op s, handle m op s = shiftOperand f op s) {r : Byte → Byte} {c : Byte → Bool} {i : Instr} {s : State}
    (hi : i.mnemonic = m) (hf : ∀ v, f s.p.c v = ⟨r v, c v⟩) : ShiftsOperand r c i s := by
  subst hi
  obtain ⟨himp, himm, -⟩ := addressWriters_mode i hm
  rw [ShiftsOperand, exec_eq_handle, h]
  rcases accumulator_or_memory himp himm s with hacc | ⟨ea, hea⟩
  · rw [hacc, shiftOperand_accumulator, hf, shiftedFlags_eq]
    rfl
  · have hp : (afterRead i.operand s).p = s.p := rfl
    simp only [hea]
    rw [shiftOperand, modifyOperand_memory _ _ hea, hp, hf, shiftedFlags_eq]
    exact ⟨_, storedAt_storeByte .., rfl⟩

/-- Settles O23: both are shifts that do not look at the carry. -/
theorem aslLsrShiftOneBit : Obligations.AslLsrShiftOneBit :=
  ⟨fun _ _ hi => exec_shift (f := fun _ => shiftLeft) (by decide) (fun _ _ => rfl) hi shiftLeft_eq,
    fun _ _ hi => exec_shift (f := fun _ => shiftRight) (by decide) (fun _ _ => rfl) hi shiftRight_eq, rfl, rfl⟩

/-- Settles O24: both are shifts that take the carry from before the instruction in. -/
theorem rolRorRotateThroughCarry : Obligations.RolRorRotateThroughCarry :=
  ⟨fun _ s hi => exec_shift (by decide) (fun _ _ => rfl) hi (rotateLeft_eq s.p.c),
    fun _ s hi => exec_shift (by decide) (fun _ _ => rfl) hi (rotateRight_eq s.p.c), rfl, rfl⟩

end Sys2Proof.Machine

/-! PROOF. The branches (R170 to R178), the compares (R179 to R182), BIT (R184) and the flag instructions (R186 to R192): O28, O29,
O34, O30. The compares share one operation of the model, and so do the branches and the flag instructions, so one lemma each says
what an instruction with that handler does. -/

namespace Sys2Proof.Machine

open Sys2Proof.Rules

/-! ### The compares -/

/-- The 8-bit difference, with 256 added to keep it a natural number (R179). -/
theorem sub_eq_ofNat (r m : Byte) : r - m = BitVec.ofNat 8 (r.toNat + 256 - m.toNat) := by
  apply BitVec.eq_of_toNat_eq
  have hm := m.isLt
  rw [BitVec.toNat_sub, BitVec.toNat_ofNat]
  omega

/-- `Compare(r, m)` is the rule R179. -/
theorem compareFlags_eq (r m : Byte) (p : Flags) : compareFlags r m p = compared r m p := by
  rw [compareFlags, setZN_eq, sub_eq_ofNat]
  rfl

/-- A mnemonic whose handler compares a register with the operand. -/
theorem exec_compareWith {reg : State → Byte} {m : Mnemonic} (h : ∀ op s, handle m op s = compareWith (reg s) op s) (i : Instr)
    (s : State) (hi : i.mnemonic = m) :
    exec i s = .next { afterRead i.operand s with p := compared (reg s) (operandByte i.operand s) s.p } := by
  rw [exec_eq_handle, hi, h, compareWith_eq, compareFlags_eq]

/-- Settles O28: each is `compareWith` of its register, and the rows are those of the table. -/
theorem comparesSetFlagsOnly : Obligations.ComparesSetFlagsOnly :=
  ⟨exec_compareWith (reg := State.a) fun _ _ => rfl, exec_compareWith (reg := State.x) fun _ _ => rfl,
    exec_compareWith (reg := State.y) fun _ _ => rfl, rfl, rfl, rfl⟩

/-! ### BIT -/

/-- The flags of BIT, with bits 6 and 7 and the test for zero as arithmetic (R184). -/
theorem bitTestFlags_eq (a m : Byte) (p : Flags) :
    bitTestFlags a m p = { p with v := bit 6 m, n := bit 7 m, z := decide ((m &&& a).toNat = 0) } := by
  have hz : (m &&& a == 0#8) = decide ((m &&& a).toNat = 0) := congrArg Flags.z (setZN_eq (m &&& a) p)
  rw [bitTestFlags, getLsbD_eq_bit, getLsbD_eq_bit, hz]

theorem bitTest_eq (op : Operand) (s : State) :
    bitTest op s = { afterRead op s with p := bitTestFlags s.a (operandByte op s) s.p } := by
  rw [bitTest, loadOperand_value, loadOperand_state]
  rfl

/-- Settles O29: BIT reads its operand once and leaves the flags of `bitTestFlags`. -/
theorem bitTestsTheOperand : Obligations.BitTestsTheOperand := by
  refine ⟨fun i s hi => ?_, rfl⟩
  rw [exec_eq_handle, hi, handle, bitTest_eq, bitTestFlags_eq]

/-! ### The branches -/

/-- An instruction with a Relative operand whose handler branches on a condition (R170). -/
theorem exec_branchTo {cond : Bool} {i : Instr} {rel : Byte} {s : State}
    (h : handle i.mnemonic i.operand s = branchTo cond (.relative rel) s) : exec i s = .next (branched cond rel s) := by
  rw [exec_eq_handle, h, branchTo, branch_eq, branched]

/-- Settles O34: each is `branchTo` on its condition, and its one row is that of the table. -/
theorem branchesGoToTheTargetWhenTaken : Obligations.BranchesGoToTheTargetWhenTaken :=
  ⟨fun _ _ => ⟨exec_branchTo rfl, exec_branchTo rfl, exec_branchTo rfl, exec_branchTo rfl, exec_branchTo rfl, exec_branchTo rfl,
      exec_branchTo rfl, exec_branchTo rfl⟩,
    rfl, rfl, rfl, rfl, rfl, rfl, rfl, rfl⟩

/-! ### The flag instructions -/

/-- An instruction whose handler gives one flag a value leaves everything else but the program counter. -/
theorem exec_changeFlags (f : Flag) (v : Bool) {i : Instr} {s : State}
    (h : handle i.mnemonic i.operand s = changeFlags (f.put v) s) :
    exec i s = .next { s with pc := s.pc + 1#16, p := f.put v s.p } := by
  rw [exec_eq_handle, h]
  rfl

/-- Settles O30: each is `changeFlags` of its one flag, and its one row is that of the table. -/
theorem flagInstructionsChangeOneFlag : Obligations.FlagInstructionsChangeOneFlag :=
  ⟨fun _ => ⟨exec_changeFlags .c false rfl, exec_changeFlags .d false rfl, exec_changeFlags .i false rfl,
      exec_changeFlags .v false rfl, exec_changeFlags .c true rfl, exec_changeFlags .d true rfl, exec_changeFlags .i true rfl⟩,
    rfl, rfl, rfl, rfl, rfl, rfl, rfl⟩

end Sys2Proof.Machine

/-! PROOF. The jumps and returns (R200 to R203): O35, O36, O37, O38, O39. A push and a pull of a word are said once in the addresses
of the rules (`pushWord_stack`, `pullWord_stack`), and an instruction is one of them around a change of the program counter. -/

namespace Sys2Proof.Machine

open Sys2Proof.Rules

/-! ### JMP -/

/-- A pointer to the last byte of a page takes its high byte from the start of that page, which is 255 below (R68). -/
theorem targetHighAddress_eq (p : Word) : targetHighAddress p = if p.toNat % 256 = 255 then p - 255#16 else p + 1#16 := by
  rw [← pageWrapNext_eq]
  apply BitVec.eq_of_toNat_eq
  have hp := p.isLt
  rw [pageWrapNext, toNat_wordOfBytes, toNat_highByte, toNat_add_one, toNat_lowByte]
  split
  · rw [BitVec.toNat_sub, BitVec.toNat_ofNat]
    omega
  · rw [BitVec.toNat_add, BitVec.toNat_ofNat]
    omega

theorem resolveAbsolute_eq (addr : Word) (s : State) :
    resolveAbsolute addr s =
      (addr, { s with pc := s.pc + 3#16, bus := spent 2 0 s.bus, busLog := s.busLog ++ wordReads s.pc addr }) := by
  have hresolve := resolve_of_not_crosses (op := .absolute addr) (s := s) rfl
  have hstate := congrArg Prod.snd hresolve
  exact Prod.ext rfl hstate

/-- JMP Absolute goes to its operand and leaves what its resolver leaves (R200). -/
theorem exec_jmpAbs (addr : Word) (s : State) :
    exec (.jmpAbs addr) s = .next { s with
      pc := addr, bus := spent 2 0 s.bus, busLog := s.busLog ++ wordReads s.pc addr } := by
  have hjump : exec (.jmpAbs addr) s = .next (jumpTo (resolveAbsolute addr s)) := rfl
  rw [hjump, resolveAbsolute_eq]
  rfl

/-- JMP Indirect goes to the target of its pointer and leaves what its resolver leaves (R200). -/
theorem exec_jmpInd (ptr : Word) (s : State) :
    exec (.jmpInd ptr) s = .next { resolved (.indirect ptr) s with pc := indirectTarget 2 ptr s } := by
  have hjump : exec (.jmpInd ptr) s = .next (jumpTo (resolveIndirect ptr s)) := rfl
  rw [hjump, resolveIndirect_eq]
  rfl

/-- Settles O35: the Absolute form is `exec_jmpAbs`, and the Indirect form reads the high byte of its target where
`targetHighAddress_eq` says. -/
theorem jmpSetsTheProgramCounter : Obligations.JmpSetsTheProgramCounter := by
  refine ⟨exec_jmpAbs, fun ptr s => ?_, rfl⟩
  have hcross : crosses (.indirect ptr) s = false := rfl
  rw [exec_jmpInd, resolved, hcross, Bool.or_false, ← targetHighAddress_eq, List.append_assoc]
  rfl

/-! ### A word on the stack -/

/-- The memory after the two pushes of a word, high byte first (R64, R69). -/
def pushedWord (w : Word) (s : State) : Memory :=
  storeByte (ignoredAt s.bus 1) (storeByte (ignoredAt s.bus 0) s.mem (stackBelow 0 s) (highOf w)) (stackBelow 1 s) (lowOf w)

theorem pushWord_stack (w : Word) (s : State) :
    pushWord w s =
      { s with
        sp := s.sp - 2#8
        mem := pushedWord w s
        bus := spent 0 2 s.bus
        busLog := s.busLog ++ [.write (stackBelow 0 s) (highOf w), .write (stackBelow 1 s) (lowOf w)] } := by
  have h0 : stackAddr s.sp = stackBelow 0 s := by rw [stackBelow_eq_stackAddr 0 (by omega), BitVec.sub_zero]
  have h1 : stackAddr (s.sp - 1#8) = stackBelow 1 s := stackAddr_sub 1 (by omega) s
  rw [pushWord_eq, sub_sub_eq, h0, h1, highByte_eq, lowByte_eq, pushedWord]

theorem pushedWord_high (w : Word) (s : State) :
    (pushedWord w s).read (stackBelow 0 s) = kept 0 (stackBelow 0 s) (highOf w) s := by
  rw [pushedWord, storeByte_other _ _ _ (stackBelow_ne (by omega) (by omega) (by omega) s), storeByte_same, kept_eq]

theorem pushedWord_low (w : Word) (s : State) :
    (pushedWord w s).read (stackBelow 1 s) = kept 1 (stackBelow 1 s) (lowOf w) s := by
  rw [pushedWord, storeByte_same, storeByte_other _ _ _ (stackBelow_ne (by omega) (by omega) (by omega) s), kept_eq]

theorem pushedWord_other {b : Word} (w : Word) {s : State} (h0 : b ≠ stackBelow 0 s) (h1 : b ≠ stackBelow 1 s) :
    (pushedWord w s).read b = s.mem.read b := by
  rw [pushedWord, storeByte_other _ _ _ h1, storeByte_other _ _ _ h0]

theorem stackAddr_add_add (s : State) : stackAddr (s.sp + 1#8 + 1#8) = stackAbove 2 s := by
  rw [BitVec.add_assoc]
  exact stackAddr_add 2 s

theorem stackAddr_add_add_add (s : State) : stackAddr (s.sp + 1#8 + 1#8 + 1#8) = stackAbove 3 s := by
  rw [BitVec.add_assoc, BitVec.add_assoc]
  exact stackAddr_add 3 s

/-- The word that two pulls form, low byte first (R64, R70). -/
def pulledWord (s : State) : Word :=
  BitVec.ofNat 16 (256 * (answer 1 (stackAbove 2 s) s).toNat + (answer 0 (stackAbove 1 s) s).toNat)

theorem pulledWord_eq {s : State} {w : Word} (hlow : answer 0 (stackAbove 1 s) s = lowOf w)
    (hhigh : answer 1 (stackAbove 2 s) s = highOf w) : pulledWord s = w := by
  rw [pulledWord, hlow, hhigh, ← wordOfBytes_eq, ← highByte_eq, ← lowByte_eq, wordOfBytes_highByte_lowByte]

theorem pullWord_stack (s : State) :
    pullWord s =
      (pulledWord s,
        { s with
          sp := s.sp + 2#8
          bus := spent 2 0 s.bus
          busLog := s.busLog ++ [readEvent 0 (stackAbove 1 s) s, readEvent 1 (stackAbove 2 s) s] }) := by
  have hsp : s.sp + 1#8 + 1#8 = s.sp + 2#8 := BitVec.add_assoc ..
  apply Prod.ext
  · rw [pullWord_value, wordOfBytes_eq, stackAddr_add 1, stackAddr_add_add, pulledWord]
  · rw [pullWord_state, stackAddr_add 1, stackAddr_add_add, hsp]

/-! ### JSR, RTS and RTI -/

/-- JSR pushes a word between its resolver and the jump; its last byte is one before the next instruction (R201). -/
theorem exec_jsr (addr : Word) (s : State) :
    exec (.jsr addr) s = .next { s with
      pc := addr
      sp := s.sp - 2#8
      mem := pushedWord (s.pc + 2#16) s
      bus := spent 2 2 s.bus
      busLog := s.busLog ++ wordReads s.pc addr ++
        [.write (stackBelow 0 s) (highOf (s.pc + 2#16)), .write (stackBelow 1 s) (lowOf (s.pc + 2#16))] } := by
  have hjsr : exec (.jsr addr) s =
      .next ((pushWord (s.pc + 3#16 - 1#16) (resolveAbsolute addr s).2).setPC addr) := rfl
  have hlast : s.pc + 3#16 - 1#16 = s.pc + 2#16 := by bv_omega
  rw [hjsr, hlast, resolveAbsolute_eq, pushWord_stack]
  rfl

/-- Settles O36: `exec_jsr` with what the two pushes leave at their own addresses and elsewhere. -/
theorem jsrPushesTheLastByteAddress : Obligations.JsrPushesTheLastByteAddress :=
  ⟨fun addr s => ⟨pushedWord (s.pc + 2#16) s, exec_jsr addr s, pushedWord_high .., pushedWord_low ..,
    fun _ => pushedWord_other _⟩, rfl⟩

/-- RTS pulls a word and goes to the address after it (R202). -/
theorem exec_rts (s : State) :
    exec .rts s = .next { s with
      pc := pulledWord s + 1#16
      sp := s.sp + 2#8
      bus := spent 2 0 s.bus
      busLog := s.busLog ++ [readEvent 0 (stackAbove 1 s) s, readEvent 1 (stackAbove 2 s) s] } := by
  have hrts : exec .rts s =
      .next ((pullWord (resolveImplicit s)).2.setPC ((pullWord (resolveImplicit s)).1 + 1#16)) := rfl
  rw [hrts, pullWord_stack]
  rfl

/-- Settles O37: `exec_rts` with the increment inside the sum, and the one row is that of the table. -/
theorem rtsPullsAndIncrements : Obligations.RtsPullsAndIncrements := by
  have hincrement (n : Nat) : BitVec.ofNat 16 n + 1#16 = BitVec.ofNat 16 (n + 1) := (BitVec.ofNat_add n 1).symm
  refine ⟨fun s => ?_, rfl⟩
  rw [exec_rts, pulledWord, hincrement]

/-- Settles O38: RTI is the return from an interrupt after its resolver, and its one row is that of the table. -/
theorem rtiRestoresStatusAndCounter : Obligations.RtiRestoresStatusAndCounter := by
  refine ⟨fun s => ?_, rfl⟩
  have hrti : exec .rti s = .next (returnFromInterrupt (resolveImplicit s)) := rfl
  have hsp : s.sp + 1#8 + 1#8 + 1#8 = s.sp + 3#8 := by bv_omega
  rw [hrti, returnFromInterrupt_eq, unpackP_eq, wordOfBytes_eq, stackAddr_add 1, stackAddr_add_add, stackAddr_add_add_add,
    resolveImplicit_sp, hsp]
  rfl

/-! ### JSR and then RTS -/

/-- RTS on the two bytes of a word, as JSR left S, goes to the address after that word (R201, R202). -/
theorem rts_returns {s u : State} {w : Word} (hsp : u.sp = s.sp - 2#8) (hlow : answer 0 (stackAbove 1 u) u = lowOf w)
    (hhigh : answer 1 (stackAbove 2 u) u = highOf w) :
    ∃ v : State, exec .rts u = .next v ∧ v.pc = w + 1#16 ∧ v.sp = s.sp := by
  refine ⟨_, exec_rts u, ?_, ?_⟩
  · rw [pulledWord_eq hlow hhigh]
  · rw [hsp, BitVec.sub_add_cancel]

/-- The pulls of a word after its pushes address the pushed bytes in reverse (R69, R70). -/
theorem stackAbove_eq_stackBelow {s u : State} (hsp : u.sp = s.sp - 2#8) :
    stackAbove 1 u = stackBelow 1 s ∧ stackAbove 2 u = stackBelow 0 s := by
  rw [← stackAddr_add, ← stackAddr_add, ← stackAddr_sub 1 (by omega), ← stackAddr_sub 0 (by omega), hsp]
  constructor
  · congr 1
    bv_omega
  · congr 1
    bv_omega

/-- Settles O39: with both bytes of the pushed word answered, RTS goes to the address after it; on the RAM bus the pulls read the
bytes that the pushes left. -/
theorem jsrThenRtsReturns : Obligations.JsrThenRtsReturns := by
  have hnext (s : State) : s.pc + 2#16 + 1#16 = s.pc + 3#16 := BitVec.add_assoc ..
  constructor
  · intro addr s t u h hsp hlow hhigh
    obtain rfl := Host.Outcome.next.inj ((exec_jsr addr s).symm.trans h)
    rw [← hnext]
    exact rts_returns hsp hlow hhigh
  · intro addr s t u h hsp hign hans hmem0 hmem1
    obtain rfl := Host.Outcome.next.inj ((exec_jsr addr s).symm.trans h)
    obtain ⟨habove1, habove2⟩ := stackAbove_eq_stackBelow hsp
    rw [← hnext]
    refine rts_returns hsp ?_ ?_
    · rw [habove1, answer_ram hans, hmem1, pushedWord_low, kept_ram hign]
    · rw [habove2, answer_ram hans, hmem0, pushedWord_high, kept_ram hign]

end Sys2Proof.Machine

/-! PROOF. The loads and stores (R223 to R228) and the adder of ADC and SBC (R220 to R222): O20, O21, O25, O26, O27. The loads share
one shape of handler, the stores one operation of the model, and ADC and SBC the adder, so one lemma each says what such an
instruction does in every mode of its rows. -/

namespace Sys2Proof.Machine

open Sys2Proof.Rules

/-! ### LDA, LDX and LDY -/

/-- A mnemonic whose handler puts the operand in a register, by `put`, and sets Z and N from it. -/
theorem exec_load {put : Byte → State → State} {m : Mnemonic}
    (h : ∀ op s, handle m op s =
      (put (loadOperand op s).1 (loadOperand op s).2).setP (setZN (loadOperand op s).1 (loadOperand op s).2.p))
    (i : Instr) (s : State) (hi : i.mnemonic = m) :
    exec i s = .next ((put (operandByte i.operand s) (afterRead i.operand s)).setP
      (withZN (operandByte i.operand s) s.p)) := by
  have hp : (afterRead i.operand s).p = s.p := rfl
  rw [exec_eq_handle, hi, h, loadOperand_value, loadOperand_state, setZN_eq, hp]

/-- Settles O20: the three handlers differ in the register they put the operand in, and the rows are those of the table. -/
theorem loadsReachTheirRegister : Obligations.LoadsReachTheirRegister :=
  ⟨exec_load (put := State.setA) fun _ _ => rfl, exec_load (put := State.setX) fun _ _ => rfl,
    exec_load (put := State.setY) fun _ _ => rfl, rfl, rfl, rfl⟩

/-! ### STA, STX and STY -/

/-- A mnemonic whose handler stores a register. -/
theorem exec_storeOperand {reg : State → Byte} {m : Mnemonic} (h : ∀ op s, handle m op s = storeOperand op (reg s) s) (i : Instr)
    (s : State) (ea : Word) (hi : i.mnemonic = m) (hea : (resolve i.operand s).1 = .memory ea) :
    ∃ mem : Memory, StoredAt s ea (reg s) mem ∧
      exec i s = .next { resolved i.operand s with
        mem := mem, bus := spent (readCount i.operand) 1 s.bus
        busLog := (resolved i.operand s).busLog ++ [.write ea (reg s)] } := by
  refine ⟨_, storedAt_storeByte .., ?_⟩
  rw [exec_eq_handle, hi, h, storeOperand_memory _ hea]

/-- An instruction that writes at its operand's address and is no shift has an address in every row. -/
theorem resolve_memory_of_addressWriter {m : Mnemonic} (hm : m ∈ addressWriters) (hshift : m ∉ shifts) (i : Instr) (s : State)
    (hi : i.mnemonic = m) : ∃ ea : Word, (resolve i.operand s).1 = .memory ea := by
  subst hi
  obtain ⟨himp, himm, hacc⟩ := addressWriters_mode i hm
  refine (accumulator_or_memory himp himm s).resolve_left fun hop => hshift (hacc ?_)
  rw [hop]
  rfl

/-- Settles O21: each is `storeOperand` of its register, no row has the Accumulator mode, and the rows are those of the table. -/
theorem storesWriteTheirRegister : Obligations.StoresWriteTheirRegister :=
  ⟨exec_storeOperand (reg := State.a) fun _ _ => rfl, resolve_memory_of_addressWriter (by decide) (by decide),
    exec_storeOperand (reg := State.x) fun _ _ => rfl, resolve_memory_of_addressWriter (by decide) (by decide),
    exec_storeOperand (reg := State.y) fun _ _ => rfl, resolve_memory_of_addressWriter (by decide) (by decide), rfl, rfl, rfl⟩

/-! ### ADC and SBC -/

/-- `AddWithCarry(m)` after the read of the operand is the rule R220: the read leaves A and the flags alone. -/
theorem addWithCarry_afterRead (m : Byte) (op : Operand) (s : State) :
    addWithCarry m (afterRead op s) = added m s (afterRead op s) := by
  have ha : (afterRead op s).a = s.a := rfl
  have hp : (afterRead op s).p = s.p := rfl
  rw [addWithCarry, adderFlags, setZN_eq, ha, hp]
  rfl

/-- A mnemonic whose handler gives the adder a byte made from the operand. -/
theorem exec_addWithCarry {f : Byte → Byte} {m : Mnemonic}
    (h : ∀ op s, handle m op s = addWithCarry (f (loadOperand op s).1) (loadOperand op s).2) (i : Instr) (s : State)
    (hi : i.mnemonic = m) : exec i s = .next (added (f (operandByte i.operand s)) s (afterRead i.operand s)) := by
  rw [exec_eq_handle, hi, h, loadOperand_value, loadOperand_state, addWithCarry_afterRead]

/-- ADC gives the adder the operand itself (R221). -/
theorem exec_adc (i : Instr) (s : State) (hi : i.mnemonic = .adc) :
    exec i s = .next (added (operandByte i.operand s) s (afterRead i.operand s)) :=
  exec_addWithCarry (f := id) (fun _ _ => rfl) i s hi

/-- Settles O25: `exec_adc`, and the rows are those of the table. -/
theorem adcAddsWithCarry : Obligations.AdcAddsWithCarry := ⟨exec_adc, rfl⟩

/-- The complement of R222 as arithmetic. -/
theorem complement_eq (m : Byte) : ~~~m = BitVec.ofNat 8 (255 - m.toNat) := by
  apply BitVec.eq_of_toNat_eq
  rw [BitVec.toNat_not, BitVec.toNat_ofNat]
  omega

/-- SBC gives the adder the complement of the operand (R222). -/
theorem exec_sbc (i : Instr) (s : State) (hi : i.mnemonic = .sbc) :
    exec i s = .next (added (~~~operandByte i.operand s) s (afterRead i.operand s)) :=
  exec_addWithCarry (f := fun m => ~~~m) (fun _ _ => rfl) i s hi

/-- Settles O26: `exec_sbc` with the complement as 255 minus the operand, and the rows are those of the table. -/
theorem sbcAddsTheComplement : Obligations.SbcAddsTheComplement := by
  refine ⟨fun i s hi => ?_, rfl⟩
  rw [exec_sbc i s hi, complement_eq]

/-! ### The carry and the overflow of the adder -/

/-- The adder sets C exactly when the unsigned sum leaves eight bits. -/
theorem added_c_iff (m : Byte) (s t : State) : (added m s t).p.c = true ↔ 256 ≤ s.a.toNat + m.toNat + s.p.c.toNat :=
  decide_eq_true_iff

/-- Masking with 0x80 tests bit 7. -/
theorem and_0x80_ne_zero (v : Byte) : (v &&& 0x80#8 != 0#8) = v.getLsbD 7 := by
  have hmask : 0x80#8 = BitVec.twoPow 8 7 := rfl
  rw [hmask, BitVec.and_twoPow]
  cases v.getLsbD 7 <;> rfl

/-- The sign-mismatch test of R220 on the top bits as comparisons: A and the operand agree and the result differs from them. -/
theorem adderOverflow_iff_sign (a m : Byte) (c : Bool) :
    adderOverflow a m c = true ↔
      (128 ≤ a.toNat ↔ 128 ≤ m.toNat) ∧ ¬(128 ≤ a.toNat ↔ 128 ≤ (adderByte a m c).toNat) := by
  rw [adderOverflow, and_0x80_ne_zero, BitVec.getLsbD_and, BitVec.getLsbD_not, BitVec.getLsbD_xor, BitVec.getLsbD_xor,
    getLsbD_seven, getLsbD_seven, getLsbD_seven]
  simp

/-- The sign-mismatch test says that the sum of the signed values is no signed byte (R220). -/
theorem adderOverflow_iff (a m : Byte) (c : Bool) :
    adderOverflow a m c = true ↔
      ¬(-128 ≤ signed a + signed m + c.toNat ∧ signed a + signed m + c.toNat ≤ 127) := by
  have ha := a.isLt
  have hm := m.isLt
  have hc := c.toNat_le
  rw [adderOverflow_iff_sign, adderByte, adderSum, BitVec.toNat_ofNat, signed, signed]
  split <;> split <;> omega

/-- The adder sets V exactly when the signed sum leaves the signed bytes. -/
theorem added_v_iff (m : Byte) (s t : State) :
    (added m s t).p.v = true ↔
      ¬(-128 ≤ signed s.a + signed m + s.p.c.toNat ∧ signed s.a + signed m + s.p.c.toNat ≤ 127) :=
  adderOverflow_iff s.a m s.p.c

/-- The complement of a byte has the signed value that subtracts it and one more (R222). -/
theorem signed_complement (m : Byte) : signed (~~~m) = -1 - signed m := by
  have hm := m.isLt
  rw [signed, BitVec.toNat_not, signed]
  split <;> split <;> omega

/-- Settles O27: the flags of the adder, for SBC on the complement, whose unsigned and signed values turn the sum into the
difference less the borrow. -/
theorem carryAndOverflowOfArithmetic : Obligations.CarryAndOverflowOfArithmetic := by
  constructor
  · intro i s t hi h
    obtain rfl := Host.Outcome.next.inj ((exec_adc i s hi).symm.trans h)
    exact ⟨added_c_iff .., added_v_iff ..⟩
  · intro i s t hi h
    obtain rfl := Host.Outcome.next.inj ((exec_sbc i s hi).symm.trans h)
    have hm := (operandByte i.operand s).isLt
    rw [added_c_iff, added_v_iff, BitVec.toNat_not, signed_complement]
    constructor <;> omega

end Sys2Proof.Machine

/-! PROOF. The transfers (R246 to R251), counting (R240 to R245) and the stack instructions (R252 to R255): O31, O32, O33, O42, O43.
The transfers and the counting of X and Y all put a byte in a register, INC and DEC are one read-modify-write, and the stack
instructions are a push or a pull after the Implicit resolver, so one lemma each says what such an instruction does. -/

namespace Sys2Proof.Machine

open Sys2Proof.Rules

/-! ### The transfers -/

/-- An instruction whose handler puts a byte in a register, with Z and N from it, after the Implicit resolver. -/
theorem exec_putReg (r : Reg) (v : Byte) {i : Instr} {s : State}
    (h : handle i.mnemonic i.operand s = (r.put v (resolveImplicit s)).setP (setZN v s.p)) :
    exec i s = .next ((r.put v { s with pc := s.pc + 1#16 }).setP (withZN v s.p)) := by
  rw [exec_eq_handle, h, setZN_eq, resolveImplicit_eq]

/-- TXS leaves the flags alone (R251). -/
theorem exec_txs (s : State) : exec .txs s = .next { s with pc := s.pc + 1#16, sp := s.x } := rfl

/-- Settles O31: five transfers put their source in a register with Z and N from it, TXS puts it in S without. -/
theorem transfersCopyRegisters : Obligations.TransfersCopyRegisters :=
  ⟨fun s => ⟨exec_putReg .x s.a rfl, exec_putReg .y s.a rfl, exec_putReg .a s.x rfl, exec_putReg .a s.y rfl,
      exec_putReg .x s.sp rfl, exec_txs s⟩,
    rfl, rfl, rfl, rfl, rfl, rfl⟩

/-! ### Counting -/

theorem add_one_eq_ofNat (v : Byte) : v + 1#8 = BitVec.ofNat 8 (v.toNat + 1) := BitVec.add_def v 1#8

/-- Counting down modulo 256 adds 255 (R9, R241). -/
theorem sub_one_eq_ofNat (v : Byte) : v - 1#8 = BitVec.ofNat 8 (v.toNat + 255) := sub_eq_ofNat v 1#8

/-- Settles O32: each puts the sum or the difference in its register, as the rule's number modulo 256. -/
theorem indexRegistersCountAndWrap : Obligations.IndexRegistersCountAndWrap := by
  refine ⟨fun s => ?_, rfl, rfl, rfl, rfl⟩
  rw [← add_one_eq_ofNat, ← add_one_eq_ofNat, ← sub_one_eq_ofNat, ← sub_one_eq_ofNat]
  exact ⟨exec_putReg .x _ rfl, exec_putReg .y _ rfl, exec_putReg .x _ rfl, exec_putReg .y _ rfl⟩

/-- A mnemonic whose handler changes the byte at its operand's address by `f`, with Z and N from the result (R73). -/
theorem exec_modifyByte {f r : Byte → Byte} {m : Mnemonic}
    (h : ∀ op s, handle m op s = modifyOperand (fun _ v => f v) (fun t v => setZN (f v) t.p) op s) (hf : ∀ v, f v = r v)
    (i : Instr) (s : State) (ea : Word) (hi : i.mnemonic = m) (hea : (resolve i.operand s).1 = .memory ea) :
    ∃ mem : Memory, StoredAt s ea (r (answer (readCount i.operand) ea s)) mem ∧
      exec i s = .next { afterRead i.operand s with
        mem := mem
        p := withZN (r (answer (readCount i.operand) ea s)) s.p
        bus := spent (readCount i.operand + 1) 1 s.bus
        busLog := (afterRead i.operand s).busLog ++ [.write ea (r (answer (readCount i.operand) ea s))] } := by
  have hp : (afterRead i.operand s).p = s.p := rfl
  refine ⟨_, storedAt_storeByte .., ?_⟩
  rw [exec_eq_handle, hi, h, modifyOperand_memory _ _ hea, hp, hf, setZN_eq]

/-- Settles O33: both are `modifyOperand`, no row has the Accumulator mode, and the rows are those of the table. -/
theorem incAndDecChangeOneByte : Obligations.IncAndDecChangeOneByte :=
  ⟨exec_modifyByte (fun _ _ => rfl) add_one_eq_ofNat, resolve_memory_of_addressWriter (by decide) (by decide),
    exec_modifyByte (fun _ _ => rfl) sub_one_eq_ofNat, resolve_memory_of_addressWriter (by decide) (by decide), rfl, rfl⟩

/-! ### PHA and PHP -/

/-- An instruction whose handler pushes a byte after the Implicit resolver (R69). -/
theorem exec_push {v : Byte} {i : Instr} {s : State} (h : handle i.mnemonic i.operand s = push v (resolveImplicit s)) :
    ∃ m : Memory, StoredAt s (stackBelow 0 s) v m ∧
      exec i s = .next { s with
        pc := s.pc + 1#16, sp := s.sp - 1#8, mem := m, bus := spent 0 1 s.bus
        busLog := s.busLog ++ [.write (stackBelow 0 s) v] } := by
  have haddr : stackAddr s.sp = stackBelow 0 s := by rw [stackBelow_eq_stackAddr 0 (by omega), BitVec.sub_zero]
  refine ⟨_, storedAt_storeByte .., ?_⟩
  rw [exec_eq_handle, h, push_eq, resolveImplicit_sp, haddr]
  rfl

/-- Settles O42: PHA pushes A and PHP the status byte with Break 0, neither changed by the resolver. -/
theorem pushInstructionsWriteOneByte : Obligations.PushInstructionsWriteOneByte := by
  refine ⟨fun s => exec_push rfl, fun s => ?_, rfl, rfl⟩
  obtain ⟨m, hstored, hexec⟩ := exec_push (v := packP false s.p) (i := .php) (s := s) rfl
  exact ⟨m, packP false s.p, packP_toNat .., hstored, hexec⟩

/-! ### PLA and PLP -/

/-- A pull after the Implicit resolver (R70). -/
theorem pull_resolveImplicit (s : State) :
    pull (resolveImplicit s) =
      (answer 0 (stackAbove 1 s) s,
        { s with
          pc := s.pc + 1#16
          sp := s.sp + 1#8
          bus := spent 1 0 s.bus
          busLog := s.busLog ++ [readEvent 0 (stackAbove 1 s) s] }) := by
  apply Prod.ext
  · rw [pull_value, resolveImplicit_sp, stackAddr_add 1]
    rfl
  · rw [pull_state, resolveImplicit_sp, stackAddr_add 1]
    rfl

/-- Settles O43: PLA puts the pulled byte in A with Z and N from it, PLP unpacks it into the flags. -/
theorem pullInstructionsReadOneByte : Obligations.PullInstructionsReadOneByte := by
  refine ⟨fun s => ⟨?_, ?_⟩, rfl, rfl⟩
  · have hpla : exec .pla s = .next (pla s) := rfl
    rw [hpla, pla, pull_resolveImplicit, setZN_eq]
    rfl
  · have hplp : exec .plp s = .next (plp s) := rfl
    rw [hplp, plp, pull_resolveImplicit, unpackP_eq]
    rfl

end Sys2Proof.Machine

/-! PROOF. BRK, NOP and the illegal rows (R270 to R273): O40, O41, O45, O46. BRK is the interrupt sequence from the address after its
padding byte, whose frame of three bytes RTI takes off the stack again; an illegal row is known by its mnemonic. -/

namespace Sys2Proof.Machine

open Sys2Proof.Rules

/-! ### BRK -/

theorem packP_eq (brk : Bool) (p : Flags) : packP brk p = BitVec.ofNat 8 (statusNumber brk true p) := by
  rw [← packP_toNat, BitVec.ofNat_toNat, BitVec.setWidth_eq]

/-- The three pushes of an interrupt sequence go to three different addresses (R69, R327). -/
theorem framePushed_interruptFrame (brk : Bool) (s : State) : FramePushed brk s (interruptFrame brk s) := by
  have h01 : stackBelow 0 s ≠ stackBelow 1 s := stackBelow_ne (by omega) (by omega) (by omega) s
  have h02 : stackBelow 0 s ≠ stackBelow 2 s := stackBelow_ne (by omega) (by omega) (by omega) s
  have h12 : stackBelow 1 s ≠ stackBelow 2 s := stackBelow_ne (by omega) (by omega) (by omega) s
  rw [FramePushed, interruptFrame_stack, packP_eq]
  refine ⟨?_, ?_, ?_, fun b h0 h1 h2 => ?_⟩
  · rw [storeByte_other _ _ _ h02, storeByte_other _ _ _ h01, storeByte_same, kept_eq]
  · rw [storeByte_other _ _ _ h12, storeByte_same, storeByte_other _ _ _ h01.symm, kept_eq]
  · rw [storeByte_same, storeByte_other _ _ _ h12.symm, storeByte_other _ _ _ h02.symm, kept_eq]
  · rw [storeByte_other _ _ _ h2, storeByte_other _ _ _ h1, storeByte_other _ _ _ h0]

/-- BRK is the interrupt sequence with Break 1 in the pushed byte, from the address after its padding byte; the stored Break ends
clear (R270). -/
theorem exec_brk (pad : Byte) (s : State) :
    exec (.brk pad) s = .next { entered irqVector true (interruptFrame true (s.setPC (s.pc + 2#16))) (s.setPC (s.pc + 2#16)) with
      p := { s.p with i := true, b := false } } := by
  have hbrk : exec (.brk pad) s = .next (brk s) := rfl
  have hpc : s.pc + 1#16 + 1#16 = s.pc + 2#16 := BitVec.add_assoc ..
  have hpush : packP true { s.p with b := true } = packP true (s.setPC (s.pc + 2#16)).p := rfl
  rw [hbrk, brk_eq, brkStart, hpc, takeInterrupt_setP _ hpush, takeInterrupt_entered _ (.inr rfl)]
  rfl

/-- Settles O40: `exec_brk` with what the three pushes leave at their own addresses and elsewhere. -/
theorem brkEntersTheInterruptSequence : Obligations.BrkEntersTheInterruptSequence :=
  ⟨fun pad s => ⟨_, framePushed_interruptFrame true _, exec_brk pad s⟩, rfl, rfl⟩

/-! ### BRK and then RTI -/

/-- After `n` pushes the `j`-th pull addresses the byte that was pushed as the `j`-th from the end (R69, R70). -/
theorem stackAbove_eq_stackBelow_of_add {s u : State} {j k n : Nat} (hjk : j + k = n) (hk : k ≤ 256)
    (hsp : u.sp = s.sp - BitVec.ofNat 8 n) : stackAbove j u = stackBelow k s := by
  have hback : s.sp - BitVec.ofNat 8 n + BitVec.ofNat 8 j = s.sp - BitVec.ofNat 8 k := by
    rw [← hjk, BitVec.ofNat_add]
    bv_omega
  rw [← stackAddr_add, ← stackAddr_sub k hk, hsp, hback]

/-- RTI on the frame that an interrupt sequence pushed goes to the address and restores the flags of that frame (R203). -/
theorem rti_returns {s u : State} {w : Word} {brk : Bool} {p : Flags} (hsp : u.sp = s.sp - 3#8)
    (hstatus : answer 0 (stackAbove 1 u) u = BitVec.ofNat 8 (statusNumber brk true p))
    (hlow : answer 1 (stackAbove 2 u) u = lowOf w) (hhigh : answer 2 (stackAbove 3 u) u = highOf w) :
    ∃ v : State, exec .rti u = .next v ∧ v.pc = w ∧ v.sp = s.sp ∧ v.p = { p with b := false, u := true } := by
  obtain ⟨hrti, -⟩ := rtiRestoresStatusAndCounter
  refine ⟨_, hrti u, ?_, ?_, ?_⟩
  · rw [hlow, hhigh, ← wordOfBytes_eq, ← highByte_eq, ← lowByte_eq, wordOfBytes_highByte_lowByte]
  · rw [hsp, BitVec.sub_add_cancel]
  · rw [hstatus, ← packP_eq, ← unpackP_eq, unpackP_packP]

/-- Settles O41: with all three bytes of the frame answered, RTI restores what they were made of; on the RAM bus the pulls read the
bytes that the pushes left. -/
theorem brkThenRtiRestores : Obligations.BrkThenRtiRestores := by
  constructor
  · intro pad s t u h hsp hstatus hlow hhigh
    obtain rfl := Host.Outcome.next.inj ((exec_brk pad s).symm.trans h)
    have hbyte := BitVec.eq_of_toNat_eq (hstatus.trans (packP_toNat true s.p).symm)
    exact rti_returns hsp (hbyte.trans (packP_eq true s.p)) hlow hhigh
  · intro pad s t u h hsp hign hans hmem
    obtain rfl := Host.Outcome.next.inj ((exec_brk pad s).symm.trans h)
    have hpulled {j k : Nat} (hjk : j + k = 3) (hk : k < 3) (n : Nat) : answer n (stackAbove j u) u =
        (interruptFrame true (s.setPC (s.pc + 2#16))).read (stackBelow k s) := by
      rw [stackAbove_eq_stackBelow_of_add hjk (by omega) hsp, answer_ram hans]
      exact hmem k hk
    obtain ⟨hhigh, hlow, hstatus, -⟩ := framePushed_interruptFrame true (s.setPC (s.pc + 2#16))
    have hign' : (s.setPC (s.pc + 2#16)).bus.ignored = [] := hign
    rw [kept_ram hign'] at hhigh hlow hstatus
    exact rti_returns hsp ((hpulled rfl (by omega) 0).trans hstatus) ((hpulled rfl (by omega) 1).trans hlow)
      ((hpulled rfl (by omega) 2).trans hhigh)

/-! ### NOP -/

/-- Settles O45: NOP is the Implicit resolver, and its one row is that of the table. -/
theorem nopOnlyAdvances : Obligations.NopOnlyAdvances := by
  have hnop (s : State) : exec .nop s = .next (resolveImplicit s) := rfl
  exact ⟨hnop, rfl⟩

/-! ### The illegal rows -/

/-- The handler of a mnemonic that is spelled with an asterisk runs the resolver alone (R97, R272). -/
theorem handle_of_asterisk {m : Mnemonic} (h : (mnemonicText m).head? = some '*') (op : Operand) (s : State) :
    handle m op s = resolved op s := by
  cases m
  case illSlo | illRla | illSre | illRra | illSax | illLax | illLxa | illDcp | illIsc | illAnc | illAlr | illArr | illAne | illSbx
      | illUsbc | illSha | illShx | illShy | illTas | illLas | illNop | illKil =>
    exact resolve_state op s
  all_goals exact absurd h (by decide)

/-- The mnemonic of an instruction with an illegal row is spelled with an asterisk (R97). -/
theorem asterisk_of_illegal {i : Instr} (h : (tableRow i.opcode).cls = .illegal) :
    (mnemonicText i.mnemonic).head? = some '*' := by
  rw [← (tableRow_opcode i).1]
  by_contra hname
  rw [cls_tableRow, if_neg hname] at h
  cases h

/-- A row of *KIL has the Implicit mode (R97). -/
theorem mode_tableRow_kil : ∀ b : Byte, (tableRow b).mnemonic = .illKil → (tableRow b).mode = .implicit := by
  decide

theorem operand_kil {i : Instr} (h : i.mnemonic = .illKil) : i.operand = .implicit := by
  obtain ⟨hmnemonic, hmode⟩ := tableRow_opcode i
  have himplicit : operandMode i.operand = .implicit := hmode.symm.trans (mode_tableRow_kil _ (hmnemonic.trans h))
  revert himplicit
  cases i.operand <;> simp [operandMode]

/-- Settles O46: the handler of an illegal row runs the resolver alone, and that of *KIL is the Implicit one. -/
theorem illegalRowsOnlyResolve : Obligations.IllegalRowsOnlyResolve := by
  constructor
  · intro i s h
    rw [exec_eq_handle, handle_of_asterisk (asterisk_of_illegal h)]
  · intro i s h
    have hkil : handle .illKil .implicit s = resolveImplicit s := rfl
    rw [exec_eq_handle, h, operand_kil h, hkil, resolveImplicit_eq]

end Sys2Proof.Machine

/-! PROOF. The step as a whole (R290 to R302): O6, O13, O14. What the host does between steps keeps the invariant as a step does;
the step runs the instruction that the bus's answers decode to; and each operation logs as many bus events as its rule says. -/

namespace Sys2Proof.Machine

open Sys2Proof.Rules

/-! ### The invariant and the host -/

/-- What the host does keeps the invariant: reset establishes the boundary flags, no other input touches them, and memory changes
by writes alone (R300). -/
theorem applyInput_keeps_inv (e : Input) {s : State} (hs : s.inv = true) : (applyInput e s).inv = true := by
  obtain ⟨hbound, hwf⟩ := s.inv_iff.mp hs
  cases e with
  | reset => exact (State.inv_iff _).mpr ⟨resetOp_atBoundary s, by rwa [applyInput, resetOp_eq]⟩
  | changeMemory a v => exact (State.inv_iff _).mpr ⟨hbound, Memory.wf_write a v hwf⟩
  | raiseNMI | raiseIRQ | withdrawIRQ | startDma | answerReads | ignoreWrites => exact hs

theorem Reaches.keeps_inv {s t : State} (h : Reaches s t) (hs : s.inv = true) : t.inv = true := by
  induction h with
  | start => exact hs
  | input e _ ih => exact applyInput_keeps_inv e ih
  | step _ hstep ih => exact everyStepKeepsInvariant _ _ ih hstep

/-- Settles O6: the invariant is kept by every input and by every step (O4), and reset meets it (O3). -/
theorem reachableStatesMeetInvariant : Obligations.ReachableStatesMeetInvariant :=
  ⟨fun _ _ hs h => h.keeps_inv hs, fun _ h => h.keeps_inv resetMeetsInvariant⟩

/-! ### The fetched instruction -/

/-- The decoder answers the same instruction from three bytes as from those of them that the opcode byte calls for (R90). -/
theorem decode_three_bytes (b0 b1 b2 : Byte) :
    decode [b0, b1, b2] = .ok (decodeBytes b0 b1 b2) ([b0, b1, b2].drop (instructionSize b0)) := by
  rw [← decode_encode, encode_decodeBytes, List.take_append_drop]

/-- The instruction that the bus's answers decode to is the one the step fetches (R91, R292). -/
theorem fetchInstr_of_decode {s : State} {i : Instr} {rest : List Byte}
    (h : decode [answer 0 s.pc s, answer 1 (s.pc + 1#16) s, answer 2 (s.pc + 2#16) s] = .ok i rest) : fetchInstr s = i := by
  rw [decode_three_bytes] at h
  injection h with hi
  rw [fetchInstr_eq, hi]

/-- Settles O13: the opcode byte that the step read is the one of the instruction it fetched. -/
theorem stepRunsTheDecodedInstruction : Obligations.StepRunsTheDecodedInstruction := by
  intro s i rest _ hdecode
  obtain rfl := fetchInstr_of_decode hdecode
  have hop : opcodeAt s = (fetchInstr s).opcode := by rw [opcodeAt_eq, opcode_fetchInstr]
  rw [← hop]
  exact ⟨_, exec_eq_handle _ _, step_eq s⟩

/-! ### How many bus events an operation logs -/

theorem length_resolverReads (op : Operand) (s : State) : (resolverReads op s).length = readCount op := by
  cases op <;> rfl

theorem length_operandReads_le (op : Operand) (s : State) : (operandReads op s).length ≤ 1 := by
  unfold operandReads
  split <;> simp

theorem resolve_logLength (op : Operand) (s : State) :
    (resolve op s).2.busLog.length = s.busLog.length + readCount op := by
  rw [resolve_state, resolved, List.length_append, length_resolverReads]

theorem loadOperand_logLength_le (op : Operand) (s : State) :
    (loadOperand op s).2.busLog.length ≤ s.busLog.length + readCount op + 1 := by
  have hread := length_operandReads_le op s
  rw [loadOperand_state, afterRead, resolved, List.length_append, List.length_append, length_resolverReads]
  omega

theorem writeOperand_logLength_le (pl : Place) (v : Byte) (s : State) :
    (writeOperand pl v s).busLog.length ≤ s.busLog.length + 1 := by
  cases pl <;> simp [writeOperand, memWrite_eq]

theorem storeOperand_logLength_le (op : Operand) (v : Byte) (s : State) :
    (storeOperand op v s).busLog.length ≤ s.busLog.length + readCount op + 1 := by
  rw [← resolve_logLength]
  exact writeOperand_logLength_le ..

theorem modifyOperand_logLength_le (f : State → Byte → Byte) (g : State → Byte → Flags) (op : Operand) (s : State) :
    (modifyOperand f g op s).busLog.length ≤ s.busLog.length + readCount op + 2 :=
  (writeOperand_logLength_le ..).trans (Nat.add_le_add_right (loadOperand_logLength_le op s) 1)

theorem push_logLength (v : Byte) (s : State) : (push v s).busLog.length = s.busLog.length + 1 := by
  simp [push_eq]

theorem pull_logLength (s : State) : (pull s).2.busLog.length = s.busLog.length + 1 := by
  simp [pull_state]

theorem pushWord_logLength (w : Word) (s : State) : (pushWord w s).busLog.length = s.busLog.length + 2 := by
  simp [pushWord_eq]

theorem pullWord_logLength (s : State) : (pullWord s).2.busLog.length = s.busLog.length + 2 := by
  simp [pullWord_state]

/-- An interrupt sequence writes its three bytes and reads the two of its vector (R270, R327). -/
theorem takeInterrupt_logLength (v : Word) (brk : Bool) (s : State) :
    (takeInterrupt v brk s).busLog.length = s.busLog.length + 5 := by
  simp [takeInterrupt_eq]

theorem brk_logLength (s : State) : (brk s).busLog.length = s.busLog.length + 5 :=
  takeInterrupt_logLength irqVector true (brkStart s)

theorem returnFromInterrupt_logLength (s : State) : (returnFromInterrupt s).busLog.length = s.busLog.length + 3 := by
  simp [returnFromInterrupt_eq]

theorem branchTo_logLength_le (cond : Bool) (op : Operand) (s : State) :
    (branchTo cond op s).busLog.length ≤ s.busLog.length + readCount op := by
  cases op
  case relative rel =>
    rw [← resolve_logLength]
    cases cond <;> exact Nat.le_refl _
  all_goals exact Nat.le_add_right ..

theorem jumpOperand_logLength_le (op : Operand) (s : State) :
    (jumpOperand op s).busLog.length ≤ s.busLog.length + readCount op := by
  cases op
  case absolute addr => exact (resolve_logLength (.absolute addr) s).le
  case indirect ptr => exact (resolve_logLength (.indirect ptr) s).le
  all_goals exact Nat.le_add_right ..

theorem jsrOperand_logLength_le (op : Operand) (s : State) :
    (jsrOperand op s).busLog.length ≤ s.busLog.length + readCount op + 2 := by
  cases op
  case absolute addr =>
    rw [jsrOperand, jsr, State.setPC_busLog, pushWord_logLength]
    exact Nat.add_le_add_right (resolve_logLength (.absolute addr) s).le 2
  all_goals exact Nat.le_add_right_of_le (Nat.le_add_right ..)

/-- A handler makes at most five accesses beside its resolver's reads (R138, R302). -/
theorem handle_logLength_le (m : Mnemonic) (op : Operand) (s : State) :
    (handle m op s).busLog.length ≤ s.busLog.length + readCount op + 5 := by
  cases m
  case and | ora | eor | adc | sbc | cmp | cpx | cpy | bit | lda | ldx | ldy =>
    exact (loadOperand_logLength_le op s).trans (by omega)
  case sta | stx | sty => exact (storeOperand_logLength_le op _ s).trans (by omega)
  case asl | lsr | rol | ror | inc | dec => exact (modifyOperand_logLength_le _ _ op s).trans (by omega)
  case bpl | bmi | bvc | bvs | bcc | bcs | bne | beq => exact (branchTo_logLength_le _ op s).trans (by omega)
  case jmp => exact (jumpOperand_logLength_le op s).trans (by omega)
  case jsr => exact (jsrOperand_logLength_le op s).trans (by omega)
  case rts => exact (pullWord_logLength (resolveImplicit s)).le.trans (by rw [resolveImplicit_busLog]; omega)
  case rti => exact (returnFromInterrupt_logLength (resolveImplicit s)).le.trans (by rw [resolveImplicit_busLog]; omega)
  case pha | php => exact (push_logLength _ (resolveImplicit s)).le.trans (by rw [resolveImplicit_busLog]; omega)
  case pla | plp => exact (pull_logLength (resolveImplicit s)).le.trans (by rw [resolveImplicit_busLog]; omega)
  case brk => exact (brk_logLength s).le.trans (by omega)
  case clc | cld | cli | clv | sec | sed | sei | nop | inx | iny | dex | dey | tax | tay | txa | tya | tsx | txs =>
    simp [handle, Nat.add_assoc]
  all_goals exact (resolve_logLength op s).le.trans (by omega)

theorem interruptCheck_logLength_le (s : State) : (interruptCheck s).busLog.length ≤ s.busLog.length + 5 := by
  rcases interruptCheck_cases s with ⟨-, h⟩ | ⟨-, -, -, h⟩ | ⟨-, -, h⟩ <;> rw [h]
  · exact (takeInterrupt_logLength nmiVector false s).le
  · exact (takeInterrupt_logLength irqVector false s).le
  · exact Nat.le_add_right ..

theorem finishStep_logLength_le (op : Byte) (s : State) : (finishStep op s).busLog.length ≤ s.busLog.length + 5 :=
  interruptCheck_logLength_le (account op s)

theorem prepareStep_logLength (s : State) : (prepareStep s).busLog.length = 1 := by
  rw [prepareStep_eq, List.length_singleton]

/-- The log of an exchange only grows. -/
theorem Exchanges.logLength_le {s t : State} (h : Exchanges s t) : s.busLog.length ≤ t.busLog.length := by
  obtain ⟨l, hl, -⟩ := h
  simp [hl]

/-- Settles O14: the fetch is one access, an instruction's own events and those of an interrupt entry only add to the log, and the
bounds of the phases add up. -/
theorem everyStepAnswersANextState : Obligations.EveryStepAnswersANextState := by
  intro s
  have hfetch := prepareStep_logLength s
  have hgrow := (exchanges_trans (exchanges_handle (operandAnswered_fetchInstr s) (fetchInstr s).mnemonic)
    (exchanges_finishStep (opcodeAt s) _)).logLength_le
  have hhandle := handle_logLength_le (fetchInstr s).mnemonic (fetchInstr s).operand (prepareStep s)
  have hfinish := finishStep_logLength_le (opcodeAt s)
    (handle (fetchInstr s).mnemonic (fetchInstr s).operand (prepareStep s))
  have hreads := readCount_le (fetchInstr s).operand
  exact ⟨_, step_eq s, by omega, by omega⟩

end Sys2Proof.Machine

/-! PROOF. The DMA stall (R291, R368): O16. The stall is where the step's running total begins, no handler looks at that total, and
the phases after Execute only add to it. -/

namespace Sys2Proof.Machine

open Sys2Proof.Rules

/-! ### No handler looks at the step's running total -/

theorem resolve_setStepCycles (op : Operand) (n : Nat) (s : State) :
    resolve op (s.setStepCycles n) = ((resolve op s).1, (resolve op s).2.setStepCycles n) := by
  have hcross : crosses op (s.setStepCycles n) = crosses op s := crosses_congr op rfl rfl rfl rfl rfl
  have hreads : resolverReads op (s.setStepCycles n) = resolverReads op s := resolverReads_congr op rfl rfl rfl rfl
  apply Prod.ext
  · rw [resolve_place, resolve_place]
    exact place_congr op rfl rfl rfl rfl rfl
  · rw [resolve_state, resolve_state, resolved, hcross, hreads]
    rfl

theorem loadOperand_setStepCycles (op : Operand) (n : Nat) (s : State) :
    loadOperand op (s.setStepCycles n) = ((loadOperand op s).1, (loadOperand op s).2.setStepCycles n) := by
  rw [loadOperand, resolve_setStepCycles, loadOperand]
  cases (resolve op s).1 <;> rfl

theorem writeOperand_setStepCycles (pl : Place) (v : Byte) (n : Nat) (s : State) :
    writeOperand pl v (s.setStepCycles n) = (writeOperand pl v s).setStepCycles n := by
  cases pl <;> rfl

theorem storeOperand_setStepCycles (op : Operand) (v : Byte) (n : Nat) (s : State) :
    storeOperand op v (s.setStepCycles n) = (storeOperand op v s).setStepCycles n := by
  rw [storeOperand, resolve_setStepCycles, writeOperand_setStepCycles, storeOperand]

/-- A read-modify-write whose byte and flags do not look at the running total. -/
theorem modifyOperand_setStepCycles {f : State → Byte → Byte} {g : State → Byte → Flags} {n : Nat}
    (hf : ∀ t v, f (t.setStepCycles n) v = f t v) (hg : ∀ t v, g (t.setStepCycles n) v = g t v) (op : Operand) (s : State) :
    modifyOperand f g op (s.setStepCycles n) = (modifyOperand f g op s).setStepCycles n := by
  simp only [modifyOperand, loadOperand_setStepCycles, resolve_setStepCycles, writeOperand_setStepCycles, hf, hg]
  rfl

theorem branchTo_setStepCycles (cond : Bool) (op : Operand) (n : Nat) (s : State) :
    branchTo cond op (s.setStepCycles n) = (branchTo cond op s).setStepCycles n := by
  cases op
  case relative rel => cases cond <;> rfl
  all_goals rfl

theorem jumpOperand_setStepCycles (op : Operand) (n : Nat) (s : State) :
    jumpOperand op (s.setStepCycles n) = (jumpOperand op s).setStepCycles n := by
  cases op
  case indirect ptr =>
    simp only [jumpOperand, jumpTo, resolveIndirect_eq]
    rfl
  all_goals rfl

theorem jsrOperand_setStepCycles (op : Operand) (n : Nat) (s : State) :
    jsrOperand op (s.setStepCycles n) = (jsrOperand op s).setStepCycles n := by
  cases op
  case absolute addr =>
    simp only [jsrOperand, jsr, pushWord_eq]
    rfl
  all_goals rfl

theorem takeInterrupt_setStepCycles (v : Word) (brk : Bool) (n : Nat) (s : State) :
    takeInterrupt v brk (s.setStepCycles n) = (takeInterrupt v brk s).setStepCycles n := by
  rw [takeInterrupt_eq, takeInterrupt_eq]
  rfl

theorem brk_setStepCycles (n : Nat) (s : State) : brk (s.setStepCycles n) = (brk s).setStepCycles n := by
  have hstart : brkStart (s.setStepCycles n) = (brkStart s).setStepCycles n := rfl
  rw [brk_eq, hstart, takeInterrupt_setStepCycles]
  rfl

/-- The running total is the engine's: a handler does the same whatever it is (R290, R293). -/
theorem handle_setStepCycles (m : Mnemonic) (op : Operand) (n : Nat) (s : State) :
    handle m op (s.setStepCycles n) = (handle m op s).setStepCycles n := by
  cases m
  case and | ora | eor | adc | sbc | cmp | cpx | cpy | bit | lda | ldx | ldy =>
    simp only [handle, andA, oraA, eorA, combineA, adc, sbc, addWithCarry, cmp, cpx, cpy, compareWith, bitTest, lda, ldx, ldy,
      loadOperand_setStepCycles]
    rfl
  case sta | stx | sty => exact storeOperand_setStepCycles ..
  case asl | lsr | rol | ror | inc | dec =>
    simp only [handle, asl, lsr, rol, ror, shiftOperand, inc, dec]
    exact modifyOperand_setStepCycles (fun _ _ => rfl) (fun _ _ => rfl) op s
  case bpl | bmi | bvc | bvs | bcc | bcs | bne | beq => exact branchTo_setStepCycles ..
  case jmp => exact jumpOperand_setStepCycles ..
  case jsr => exact jsrOperand_setStepCycles ..
  case brk => exact brk_setStepCycles ..
  case clc | cld | cli | clv | sec | sed | sei | nop | inx | iny | dex | dey | tax | tay | txa | tya | tsx | txs => rfl
  case rts | rti | pha | php | pla | plp => rfl
  all_goals simp only [handle, illegal, resolve_setStepCycles]

/-! ### The DMA stall -/

/-- The state with `n` more cycles in the step's running total. -/
def State.addCycles (n : Nat) (s : State) : State := s.setStepCycles (s.stepCycles + n)

theorem account_addCycles (n : Nat) (op : Byte) (s : State) : account op (s.addCycles n) = (account op s).addCycles n := by
  have hsum : s.stepCycles + n + baseCyclesOf s.params op + oopsCharge op s + branchCharge s =
      s.stepCycles + baseCyclesOf s.params op + oopsCharge op s + branchCharge s + n := by omega
  exact congrArg (account op s).setStepCycles hsum

theorem interruptCheck_addCycles (n : Nat) (s : State) :
    interruptCheck (s.addCycles n) = (interruptCheck s).addCycles n := by
  have henter (v : Word) : enterInterrupt v (s.addCycles n) = (enterInterrupt v s).addCycles n := by
    rw [enterInterrupt_eq, State.addCycles, takeInterrupt_setStepCycles, enterInterrupt_eq]
    exact congrArg (takeInterrupt v false s).setStepCycles (Nat.add_right_comm s.stepCycles n 7)
  cases hnmi : s.pendingNMI with
  | true =>
    rw [interruptCheck_nmi hnmi, interruptCheck_nmi (s := s.addCycles n) hnmi, henter]
    rfl
  | false =>
    cases hirq : s.pendingIRQ && !s.p.i with
    | true =>
      rw [interruptCheck_irq hnmi hirq, interruptCheck_irq (s := s.addCycles n) hnmi hirq, henter]
      rfl
    | false => rw [interruptCheck_none hnmi hirq, interruptCheck_none (s := s.addCycles n) hnmi hirq]

/-- The cycles that a step has when Account begins reach its total and the counter (R290, R297). -/
theorem finishStep_addCycles (n : Nat) (op : Byte) (s : State) :
    finishStep op (s.addCycles n) =
      { finishStep op s with
        stepCycles := (finishStep op s).stepCycles + n, cycleCount := (finishStep op s).cycleCount + n } := by
  rw [finishStep, account_addCycles, interruptCheck_addCycles, countCycles_eq, finishStep, countCycles_eq]
  simp only [State.addCycles, State.setStepCycles, Nat.add_assoc]

/-- The stall is the running total that Execute begins with (R291). -/
theorem handle_prepareStep_startDma (m : Mnemonic) (op : Operand) (n : Nat) (s : State) :
    handle m op (prepareStep (startDma n s)) = (handle m op (prepareStep (startDma 0 s))).addCycles n := by
  have hprep : prepareStep (startDma n s) = (prepareStep (startDma 0 s)).setStepCycles n := rfl
  have hzero : (prepareStep (startDma 0 s)).stepCycles = 0 := rfl
  rw [hprep, handle_setStepCycles, State.addCycles, handle_stepCycles, hzero, Nat.zero_add]

/-- Settles O16: the cycles of the stall pass through Execute and the phases after it to the total and the counter. -/
theorem dmaStallOnlyAddsCycles : Obligations.DmaStallOnlyAddsCycles := by
  intro s t n h
  have hinstr : fetchInstr (startDma n s) = fetchInstr (startDma 0 s) := rfl
  have hop : opcodeAt (startDma n s) = opcodeAt (startDma 0 s) := rfl
  rw [step_eq, hinstr, hop, handle_prepareStep_startDma, finishStep_addCycles, ← eq_of_step h]

end Sys2Proof.Machine

/-! PROOF. The cycles of a step (R294 to R297, R369): O15. Account charges by the penalty flags that the instruction has left, which
say of clear ones whether its mode crossed a page and whether its branch was taken. -/

namespace Sys2Proof.Machine

open Sys2Proof.Rules

/-! ### The cycle total -/

/-- The first entry of a byte in `ILLEGAL_CYCLES`, as the machine and as the rule look it up (R274). -/
theorem lookup_eq_find (l : List (Byte × Nat)) (op : Byte) :
    l.lookup op = (l.find? (fun e => e.1 == op)).map (fun e => e.2) := by
  induction l with
  | nil => rfl
  | cons e l ih =>
    rw [List.lookup_cons, List.find?_cons, BEq.comm (a := op), ih]
    cases e.1 == op <;> rfl

theorem baseCyclesOf_eq (params : Params) (op : Byte) : baseCyclesOf params op = baseCharge params op := by
  unfold baseCyclesOf baseCharge
  cases h : (tableRow op).cls with
  | documented => rfl
  | illegal =>
    rw [illegalCycles, lookup_eq_find]
    rfl

/-- The Relative rows alone have the branch's penalty class (R103, R295). -/
theorem penalty_tableRow_branch : ∀ b : Byte, (tableRow b).penalty = .branch ↔ (tableRow b).mode = .relative := by
  decide

/-- An instruction with a Relative operand is a branch. -/
theorem condition_of_relative {i : Instr} (h : operandMode i.operand = .relative) (p : Flags) :
    condition i.mnemonic p ≠ none := by
  revert h
  cases i <;> simp [Instr.mnemonic, Instr.operand, operandMode, condition]

/-- The branches alone have the branch's penalty class (R295). -/
theorem penalty_eq_branch_iff (i : Instr) (p : Flags) :
    (tableRow i.opcode).penalty = .branch ↔ condition i.mnemonic p ≠ none := by
  rw [penalty_tableRow_branch, (tableRow_opcode i).2]
  exact ⟨fun h => condition_of_relative h p, condition_mode i⟩

/-- An instruction that is no branch is charged a cycle when its page cross is. -/
theorem oopsCharge_of_penalty_ne {op : Byte} (h : (tableRow op).penalty ≠ .branch) (s : State) :
    oopsCharge op s =
      if s.pendingOopsCycle then if (tableRow op).penalty = .read ∨ s.params.oopsPolicy = .anyIndexed then 1 else 0 else 0 := by
  unfold oopsCharge
  congr 1
  cases hpen : (tableRow op).penalty
  case branch => exact absurd hpen h
  case read => rfl
  case none => cases s.params.oopsPolicy <;> rfl

theorem oopsCharge_of_penalty_branch {op : Byte} (h : (tableRow op).penalty = .branch) (s : State) :
    oopsCharge op s = if s.pendingOopsCycle then branchCharge s else 0 := by
  rw [oopsCharge, h]

/-- What Account charges for the instruction `i`, where the penalty flags are those that `i` sets from clear ones in the state `s`
(R294, R295). -/
theorem charge_eq {i : Instr} {s u : State} (hparams : u.params = s.params)
    (hbranch : u.pendingBranchCycle = (condition i.mnemonic s.p == some true))
    (hoops : u.pendingOopsCycle = crosses i.operand s) :
    baseCyclesOf u.params i.opcode + oopsCharge i.opcode u + branchCharge u = charge i s := by
  have hpenalty := penalty_eq_branch_iff i s.p
  rw [charge, baseCyclesOf_eq, hparams, Nat.add_assoc]
  congr 1
  cases hcond : condition i.mnemonic s.p with
  | none =>
    rw [hcond] at hpenalty hbranch
    rw [oopsCharge_of_penalty_ne (by simp [hpenalty]), branchCharge, hbranch, hoops, hparams]
    rfl
  | some taken =>
    rw [hcond] at hpenalty hbranch
    rw [oopsCharge_of_penalty_branch (by simp [hpenalty]), branchCharge, hbranch, hoops]
    cases taken <;> cases crosses i.operand s <;> rfl

theorem interruptCheck_stepCycles (s : State) :
    (interruptCheck s).stepCycles =
      s.stepCycles + (if s.pendingNMI ∨ (s.pendingIRQ ∧ s.p.i = false) then 7 else 0) := by
  rcases interruptCheck_cases s with ⟨hnmi, h⟩ | ⟨hnmi, hirq, hi, h⟩ | ⟨hnmi, hno, h⟩
  · simp [h, hnmi]
  · simp [h, hirq, hi]
  · rcases hno with hno | hno <;> simp [h, hnmi, hno]

/-- The total of a step is what it has when Account begins, the instruction's charge, and the cycles of an interrupt entry. -/
theorem finishStep_stepCycles (op : Byte) (u : State) :
    (finishStep op u).stepCycles =
      u.stepCycles + (baseCyclesOf u.params op + oopsCharge op u + branchCharge u) +
        (if u.pendingNMI ∨ (u.pendingIRQ ∧ u.p.i = false) then 7 else 0) := by
  rw [finishStep, countCycles_eq]
  simp only [interruptCheck_stepCycles, account_eq, Nat.add_assoc]

theorem finishStep_cycleCount (op : Byte) (u : State) :
    (finishStep op u).cycleCount = u.cycleCount + (finishStep op u).stepCycles := by
  rw [finishStep, countCycles_eq]
  simp only [interruptCheck_cycleCount, account_eq]

/-- From clear penalty flags an instruction is charged what its rule says. -/
theorem charge_handle {i : Instr} {s : State} (hbranch : s.pendingBranchCycle = false) (hoops : s.pendingOopsCycle = false) :
    baseCyclesOf (handle i.mnemonic i.operand s).params i.opcode + oopsCharge i.opcode (handle i.mnemonic i.operand s) +
      branchCharge (handle i.mnemonic i.operand s) = charge i s := by
  apply charge_eq
  · exact handle_params ..
  · rw [handle_pendingBranchCycle (fitsMode_instr i), hbranch, Bool.false_or]
  · rw [handle_pendingOopsCycle (fitsMode_instr i), hoops, Bool.false_or]

/-- The charge depends on what the coming reads answer, and not on the counters or the log. -/
theorem charge_prepareStep (i : Instr) (s : State) :
    charge i (prepareStep s) = charge i { s with bus := spent 1 0 s.bus } := by
  have hcross : crosses i.operand (prepareStep s) = crosses i.operand { s with bus := spent 1 0 s.bus } :=
    crosses_congr _ rfl rfl rfl rfl rfl
  rw [charge, charge, hcross]
  rfl

/-- Settles O15: Account charges what the rule says, and the other terms are those of the phases around it. -/
theorem cyclesOfAStep : Obligations.CyclesOfAStep := by
  intro s u hs hu
  obtain ⟨-, -, hbranch, hoops⟩ := s.atBoundary_iff.mp hs
  obtain rfl := eq_of_exec hu
  refine ⟨_, step_eq s, ?_, ?_, ?_⟩
  · have hop : opcodeAt s = (fetchInstr s).opcode := by rw [opcodeAt_eq, opcode_fetchInstr]
    rw [finishStep_stepCycles, hop, charge_handle (s := prepareStep s) hbranch hoops, charge_prepareStep, handle_stepCycles,
      handle_pendingNMI, handle_pendingIRQ, prepareStep_pendingNMI, prepareStep_pendingIRQ]
    rfl
  · rw [finishStep_cycleCount, handle_cycleCount]
    rfl
  · rw [finishStep_dmaCycles, handle_dmaCycles]
    rfl

end Sys2Proof.Machine

/-! PROOF. Interrupt entry and reset (R320 to R335, R360, R367): O2, O47, O48, O49, O50. The phases after Execute enter at most one
interrupt, from the state that the instruction left; an NMI at a BRK pushes its frame on top of the frame of the BRK. -/

namespace Sys2Proof.Machine

open Sys2Proof.Rules

/-! ### Reset -/

/-- Settles O2: `resetOp_eq`, with the two bytes of the vector as a word. -/
theorem resetOperationFromAnyState : Obligations.ResetOperationFromAnyState := by
  intro s
  rw [resetOp_eq, wordOfBytes_eq]
  rfl

/-! ### The interrupt check at the end of a step -/

/-- A step ends with the phases after Execute on what its instruction left (R290). -/
theorem step_of_exec {s u : State} (hu : exec (fetchInstr s) (prepareStep s) = .next u) :
    step s = .next (finishStep (opcodeAt s) u) := by
  rw [step_def, hu]

/-- Executing an instruction leaves the NMI latch alone (R43). -/
theorem pendingNMI_of_exec {s u : State} (hu : exec (fetchInstr s) (prepareStep s) = .next u) :
    u.pendingNMI = s.pendingNMI := by
  rw [eq_of_exec hu, handle_pendingNMI, prepareStep_pendingNMI]

/-- Executing an instruction leaves the IRQ latch alone (R44). -/
theorem pendingIRQ_of_exec {s u : State} (hu : exec (fetchInstr s) (prepareStep s) = .next u) :
    u.pendingIRQ = s.pendingIRQ := by
  rw [eq_of_exec hu, handle_pendingIRQ, prepareStep_pendingIRQ]

/-- Between Account and the interrupt entry only the penalty flags and the cycle total differ from what the instruction left. -/
theorem enterInterrupt_account {v : Word} (hv : v = nmiVector ∨ v = irqVector) (op : Byte) (u : State) :
    enterInterrupt v (account op u) =
      { entered v false (interruptFrame false u) u with
        pendingBranchCycle := false, pendingOopsCycle := false, stepCycles := (account op u).stepCycles + 7 } := by
  rw [enterInterrupt_eq, takeInterrupt_entered v hv]
  rfl

/-- A step with an NMI pending enters it, whatever I is (R323, R326). -/
theorem step_nmi {s u : State} (hnmi : s.pendingNMI = true) (hu : exec (fetchInstr s) (prepareStep s) = .next u) :
    ∃ n c : Nat, step s = .next { entered nmiVector false (interruptFrame false u) u with
      pendingNMI := false, pendingBranchCycle := false, pendingOopsCycle := false, stepCycles := n, cycleCount := c } := by
  have hcheck : (account (opcodeAt s) u).pendingNMI = true := (pendingNMI_of_exec hu).trans hnmi
  rw [step_of_exec hu, finishStep, interruptCheck_nmi hcheck, enterInterrupt_account (.inl rfl)]
  exact ⟨_, _, rfl⟩

/-- A step with an IRQ and no NMI pending enters the IRQ when its instruction left I clear (R324, R326). -/
theorem step_irq {s u : State} (hnmi : s.pendingNMI = false) (hirq : s.pendingIRQ = true)
    (hu : exec (fetchInstr s) (prepareStep s) = .next u) (hi : u.p.i = false) :
    ∃ n c : Nat, step s = .next { entered irqVector false (interruptFrame false u) u with
      pendingIRQ := false, pendingBranchCycle := false, pendingOopsCycle := false, stepCycles := n, cycleCount := c } := by
  have hcheck : ((account (opcodeAt s) u).pendingIRQ && !(account (opcodeAt s) u).p.i) = true := by
    simp [account_eq, pendingIRQ_of_exec hu, hirq, hi]
  rw [step_of_exec hu, finishStep, interruptCheck_irq (s := account (opcodeAt s) u) ((pendingNMI_of_exec hu).trans hnmi) hcheck,
    enterInterrupt_account (.inr rfl)]
  exact ⟨_, _, rfl⟩

/-- A step with no NMI pending, and with no IRQ pending or I left set, enters nothing (R325, R326). -/
theorem step_no_entry {s u : State} (hnmi : s.pendingNMI = false) (hu : exec (fetchInstr s) (prepareStep s) = .next u)
    (h : s.pendingIRQ = false ∨ u.p.i = true) :
    ∃ n c : Nat, step s = .next { u with
      pendingBranchCycle := false, pendingOopsCycle := false, stepCycles := n, cycleCount := c } := by
  have hcheck : ((account (opcodeAt s) u).pendingIRQ && !(account (opcodeAt s) u).p.i) = false := by
    rcases h with h | h <;> simp [account_eq, pendingIRQ_of_exec hu, h]
  rw [step_of_exec hu, finishStep, interruptCheck_none (s := account (opcodeAt s) u) ((pendingNMI_of_exec hu).trans hnmi) hcheck]
  exact ⟨_, _, rfl⟩

/-- Settles O47: the entry of `step_nmi`, whose frame is that of the state the instruction left. -/
theorem nmiIsEnteredAfterTheInstruction : Obligations.NmiIsEnteredAfterTheInstruction := by
  intro s u hnmi hu
  have hirq : u.pendingIRQ = s.pendingIRQ := pendingIRQ_of_exec hu
  obtain ⟨n, c, hstep⟩ := step_nmi hnmi hu
  exact ⟨_, _, hstep, framePushed_interruptFrame false u, hirq, rfl⟩

/-- Settles O48: `step_irq` where I was left clear, and `step_no_entry` otherwise. -/
theorem irqIsEnteredWhenUnmasked : Obligations.IrqIsEnteredWhenUnmasked := by
  refine fun s u hnmi hu => ⟨fun hirq hi => ?_, fun h => ?_⟩
  · obtain ⟨n, c, hstep⟩ := step_irq hnmi hirq hu hi
    exact ⟨_, _, hstep, framePushed_interruptFrame false u, rfl⟩
  · have hirq : u.pendingIRQ = s.pendingIRQ := pendingIRQ_of_exec hu
    obtain ⟨n, c, hstep⟩ := step_no_entry hnmi hu h
    exact ⟨_, hstep, hirq, rfl⟩

/-! ### Later bus events and later stack bytes -/

/-- After `r` more reads the `k`-th coming read is the one that was `r` further ahead (R61). -/
theorem answer_of_spent {s u : State} {r w : Nat} {a : Word} (hbus : u.bus = spent r w s.bus) (hmem : u.mem.read a = s.mem.read a)
    (k : Nat) : answer k a u = answer (r + k) a s := by
  rw [answer_eq, answer_eq, hbus, hmem, answerAt_spent]

theorem wordAt_of_spent {s u : State} {r w : Nat} {a : Word} (hbus : u.bus = spent r w s.bus)
    (hlow : u.mem.read a = s.mem.read a) (hhigh : u.mem.read (a + 1#16) = s.mem.read (a + 1#16)) (k : Nat) :
    wordAt k a u = wordAt (r + k) a s := by
  rw [wordAt, wordAt, answer_of_spent hbus hlow, answer_of_spent hbus hhigh, Nat.add_assoc]

/-- After `w` more writes the `k`-th coming write is the one that was `w` further ahead (R62). -/
theorem kept_of_spent {s u : State} {r w : Nat} {a : Word} (hbus : u.bus = spent r w s.bus) (hmem : u.mem.read a = s.mem.read a)
    (k : Nat) (v : Byte) : kept k a v u = kept (w + k) a v s := by
  rw [kept_eq, kept_eq, hbus, hmem, ignoredAt_spent]

/-- With S lower by `n` the byte `k` below it is the one `n + k` below the earlier S (R24, R69). -/
theorem stackBelow_of_sp {s u : State} {n k : Nat} (hsp : u.sp = s.sp - BitVec.ofNat 8 n) (hk : n + k ≤ 256) :
    stackBelow k u = stackBelow (n + k) s := by
  rw [← stackAddr_sub k (by omega), ← stackAddr_sub (n + k) hk, hsp, BitVec.ofNat_add]
  congr 1
  bv_omega

/-! ### CLI and SEI -/

theorem prepareStep_bus (s : State) : (prepareStep s).bus = spent 1 0 s.bus := by rw [prepareStep_eq]

/-- Settles O49: CLI leaves I clear, so that the check of its own step enters the IRQ, and SEI leaves it set (R367). -/
theorem interruptMaskActsInItsOwnStep : Obligations.InterruptMaskActsInItsOwnStep := by
  obtain ⟨hflags, -⟩ := flagInstructionsChangeOneFlag
  refine ⟨fun s hf hnmi hirq => ?_, fun s hf hnmi hirq => ?_⟩
  · obtain ⟨-, -, hcli, -⟩ := hflags (prepareStep s)
    obtain ⟨n, c, hstep⟩ := step_irq hnmi hirq (hf ▸ hcli) rfl
    refine ⟨_, hstep, ?_, rfl, rfl⟩
    exact wordAt_of_spent (prepareStep_bus s) (by rw [prepareStep_mem]) (by rw [prepareStep_mem]) 0
  · obtain ⟨-, -, -, -, -, -, hsei⟩ := hflags (prepareStep s)
    obtain ⟨n, c, hstep⟩ := step_no_entry hnmi (hf ▸ hsei) (.inr rfl)
    refine ⟨_, hstep, ?_, rfl, hirq⟩
    rw [prepareStep_eq]

/-! ### An interrupt pending at a BRK -/

/-- The high byte of a word on the bus is the later of its two reads (R64). -/
theorem highOf_wordAt (k : Nat) (a : Word) (s : State) : highOf (wordAt k a s) = answer (k + 1) (a + 1#16) s := by
  rw [wordAt, ← wordOfBytes_eq, ← highByte_eq, highByte_wordOfBytes]

/-- The low byte of a word on the bus is the earlier of its two reads (R64). -/
theorem lowOf_wordAt (k : Nat) (a : Word) (s : State) : lowOf (wordAt k a s) = answer k a s := by
  rw [wordAt, ← wordOfBytes_eq, ← lowByte_eq, lowByte_wordOfBytes]

/-- A frame pushed from the state that another frame left lies on top of it: the bytes of the earlier one stay, and those of the
later one are at the next three stack bytes, by the next three writes (R69, R330). -/
theorem framePushed_on_frame {s u : State} {m : Memory} {b c : Bool} {r : Nat} (hsp : u.sp = s.sp - 3#8)
    (hbus : u.bus = spent r 3 s.bus) (hfirst : FramePushed b s u.mem) (hsecond : FramePushed c u m) :
    m.read (stackBelow 0 s) = kept 0 (stackBelow 0 s) (highOf s.pc) s ∧
      m.read (stackBelow 1 s) = kept 1 (stackBelow 1 s) (lowOf s.pc) s ∧
      m.read (stackBelow 2 s) = kept 2 (stackBelow 2 s) (BitVec.ofNat 8 (statusNumber b true s.p)) s ∧
      m.read (stackBelow 3 s) = kept 3 (stackBelow 3 s) (highOf u.pc) s ∧
      m.read (stackBelow 4 s) = kept 4 (stackBelow 4 s) (lowOf u.pc) s ∧
      m.read (stackBelow 5 s) = kept 5 (stackBelow 5 s) (BitVec.ofNat 8 (statusNumber c true u.p)) s := by
  obtain ⟨hhigh, hlow, hstatus, hrest⟩ := hfirst
  obtain ⟨hhigh', hlow', hstatus', hrest'⟩ := hsecond
  have hlater (j : Nat) (hj : j < 3) : stackBelow j u = stackBelow (3 + j) s := stackBelow_of_sp hsp (by omega)
  rw [hlater 0 (by omega)] at hhigh' hrest'
  rw [hlater 1 (by omega)] at hlow' hrest'
  rw [hlater 2 (by omega)] at hstatus' hrest'
  have hearlier (k : Nat) (hk : k < 3) : m.read (stackBelow k s) = u.mem.read (stackBelow k s) := by
    apply hrest' <;> exact stackBelow_ne (by omega) (by omega) (by omega) s
  have hkept (j : Nat) (hj : j < 3) (v : Byte) :
      kept j (stackBelow (3 + j) s) v u = kept (3 + j) (stackBelow (3 + j) s) v s := by
    refine kept_of_spent hbus ?_ j v
    apply hrest <;> exact stackBelow_ne (by omega) (by omega) (by omega) s
  exact ⟨(hearlier 0 (by omega)).trans hhigh, (hearlier 1 (by omega)).trans hlow, (hearlier 2 (by omega)).trans hstatus,
    hhigh'.trans (hkept 0 (by omega) _), hlow'.trans (hkept 1 (by omega) _), hstatus'.trans (hkept 2 (by omega) _)⟩

/-- The state in which the pushes of a step's BRK begin (R270, R292). -/
def brkPushState (s : State) : State :=
  { s with
    pc := s.pc + 2#16, stepCycles := s.dmaCycles, dmaCycles := 0, bus := spent 1 0 s.bus, busLog := [.read s.pc (opcodeAt s)] }

/-- The state that a step's BRK leaves (R270). -/
def afterBrk (s : State) : State :=
  { entered irqVector true (interruptFrame true (brkPushState s)) (brkPushState s) with p := { s.p with i := true, b := false } }

theorem exec_brk_prepareStep {s : State} {pad : Byte} (hf : fetchInstr s = .brk pad) :
    exec (fetchInstr s) (prepareStep s) = .next (afterBrk s) := by
  rw [hf, prepareStep_eq, exec_brk]
  rfl

theorem afterBrk_bus (s : State) : (afterBrk s).bus = spent 3 3 s.bus := spent_spent 2 3 1 0 s.bus

/-- BRK leaves the program counter at the word of its vector (R270). -/
theorem afterBrk_pc (s : State) : (afterBrk s).pc = wordAt 1 0xFFFE#16 s :=
  wordAt_of_spent (s := s) (u := brkPushState s) (r := 1) (w := 0) rfl rfl rfl 0

theorem afterBrk_read {b : Word} (h : page b ≠ 1) (s : State) : (afterBrk s).mem.read b = s.mem.read b :=
  interruptFrame_read h true (brkPushState s)

/-- Settles O50: the NMI is entered from what the BRK left, and pushes the address of its handler on top of its frame; an IRQ is
masked by the I that the BRK set. -/
theorem nmiOnTopOfBrk : Obligations.NmiOnTopOfBrk := by
  refine ⟨fun s pad hf hnmi => ?_, fun s pad hf hnmi hirq => ?_⟩
  · obtain ⟨n, c, hstep⟩ := step_nmi hnmi (exec_brk_prepareStep hf)
    have hpc : wordAt 0 nmiVector (afterBrk s) = wordAt 3 0xFFFA#16 s :=
      wordAt_of_spent (afterBrk_bus s) (afterBrk_read (by decide) s) (afterBrk_read (by decide) s) 0
    have hsp : s.sp - 3#8 - 3#8 = s.sp - 6#8 := by bv_omega
    have hframes := framePushed_on_frame (s := brkPushState s) (u := afterBrk s) rfl rfl (framePushed_interruptFrame true _)
      (framePushed_interruptFrame false _)
    rw [afterBrk_pc, highOf_wordAt, lowOf_wordAt] at hframes
    exact ⟨_, hstep, hpc, hsp, hframes⟩
  · obtain ⟨n, c, hstep⟩ := step_no_entry hnmi (exec_brk_prepareStep hf) (.inr rfl)
    exact ⟨_, hstep, afterBrk_pc s, rfl, hirq⟩

end Sys2Proof.Machine
